-- ==== Sys2Proof/Word.lean ====
section
/-! DEFINITION. Word types of the hx711_3x shift-in engine (00_scope.md R8, R11): bit vectors for what the spec
treats as bits, and nothing else. -/

namespace Sys2Proof

/-- A 32-bit host register or command word (10_state.md R32, 30_encoding.md R71). -/
abbrev Word := BitVec 32

/-- A 24-bit conversion code, the width W_SAMPLE (00_scope.md R8, 20_memory.md R63). -/
abbrev Code := BitVec 24

/-- A logic level of a line: 0 is low and 1 is high (00_scope.md R16). -/
abbrev Level := BitVec 1

/-- A 64-bit count of 1 µs ticks (20_memory.md R57). -/
abbrev Tick := BitVec 64

/-- A 2-bit SEL field (30_encoding.md R71). -/
abbrev Sel := BitVec 2

end Sys2Proof
end

