-- ==== Sys2Proof/Config.lean ====
section
/-! DEFINITION. The implementation parameters (00_scope.md R9, R10), their legality (70_reset_and_hazards.md R147),
and the free values: what the spec leaves a draw and the state's inputs do not list. -/

namespace Sys2Proof

/-- The three selectors, each a channel and gain of the sensor (00_scope.md R8, 30_encoding.md R76). -/
inductive Selector where
  /-- ChannelA-Gain128, 25 pulses. -/
  | a128
  /-- ChannelB-Gain32, 26 pulses. -/
  | b32
  /-- ChannelA-Gain64, 27 pulses. -/
  | a64
deriving DecidableEq, Repr, Inhabited

/-- The parameters of one configuration (R9, R10). The host sets them before reset: they are configuration, not
registers (70_reset_and_hazards.md R138). -/
structure Config where
  /-- T_HIGH_US: the clock's high time, in µs. -/
  tHighUs : Nat
  /-- T_LOW_US: the clock's low time, in µs. -/
  tLowUs : Nat
  /-- T_SLEEP_US: how long SLEEP holds the clock high, in µs. -/
  tSleepUs : Nat
  /-- T_SETTLE_MS: the power-on settle delay, in ms. -/
  tSettleMs : Nat
  /-- T_POLL_US: the ready wait's poll interval, in µs. -/
  tPollUs : Nat
  /-- T_READ_TIMEOUT_MS: the timeout of a READ's own ready wait, in ms. -/
  tReadTimeoutMs : Nat
  /-- PIN_FALLIBLE: whether a pin operation may return err (D29). -/
  pinFallible : Bool
  /-- NOW0: the time base at reset (D22). -/
  now0 : Tick
  /-- N_INSTANCES: how many engine instances the system has (D26). -/
  nInstances : Nat
  /-- SENSOR_SEL_AFTER_POWERUP: the selector of the first conversion after power-on or wake (D36); `none` leaves it
  a draw. -/
  selAfterPowerup : Option Selector
deriving DecidableEq, Repr

/-- The defaults of R9 and R10. OPEN parameters: N_INSTANCES is 1, SENSOR_SEL_AFTER_POWERUP a draw
(DESIGN CHOICE, log entry 2). -/
def Config.default : Config where
  tHighUs := 1
  tLowUs := 1
  tSleepUs := 100
  tSettleMs := 400
  tPollUs := 1000
  tReadTimeoutMs := 1000
  pinFallible := true
  now0 := 0
  nInstances := 1
  selAfterPowerup := none

/-- A timing parameter is an unsigned integer that fits in 32 bits (R9), between the bounds given. -/
def Config.inRange (lo hi n : Nat) : Bool := decide (lo ≤ n) && decide (n ≤ hi)

/-- The largest value a parameter of R9 can have. -/
def Config.maxParam : Nat := 2 ^ 32 - 1

/-- A configuration is legal when every parameter is in its legal range (R9, R10, R147). -/
def Config.legal (c : Config) : Bool :=
  inRange 1 50 c.tHighUs && inRange 1 maxParam c.tLowUs && inRange 61 maxParam c.tSleepUs
    && inRange 1 maxParam c.tSettleMs && inRange 1 maxParam c.tPollUs && inRange 100 1000 c.tReadTimeoutMs
    && decide (1 ≤ c.nInstances)

/-- FREE VALUE: a line level that the spec leaves a draw (20_memory.md R53, R60): SCK after a failed PinSet, and
both lines before they are configured. Each instance draws from a stream of its own. -/
opaque Config.freeLevel (stream n : Nat) : Level

/-- FREE VALUE: whether a pin operation returns err (20_memory.md R55), for an engine event that no listed turn of
the state speaks for. -/
opaque Config.freePinErr (stream n : Nat) : Bool

end Sys2Proof
end

