-- ==== Sys2Proof/Syntax.lean ====
section
/-! DEFINITION. The syntax: one constructor per row of spec/opcode_table.json (30_encoding.md R73, R77, R78). Every
32-bit word is one of these (R80). -/

namespace Sys2Proof

/-- A command word, decoded. -/
inductive Instr where
  /-- INIT, with the selector to make active (R85). -/
  | init (sel : Sel)
  /-- WAIT_READY; its timeout is in the ARG register (R90). -/
  | waitReady
  /-- READ (R92). -/
  | read
  /-- SLEEP (R104). -/
  | sleep
  /-- WAKE (R106). -/
  | wake
  /-- SET_GAIN, with the selector to make active (R110). -/
  | setGain (sel : Sel)
  /-- The word of INIT with SEL = 3 (R78). -/
  | invalidInit
  /-- The word of SET_GAIN with SEL = 3 (R78). -/
  | invalidSetGain
  /-- Every other word (R77). -/
  | illegal (w : Word)
deriving DecidableEq, Repr

end Sys2Proof
end

