-- ==== Sys2Proof/WellFormed.lean ====
section
/-! DEFINITION. Which terms of the syntax stand for a command word. -/

namespace Sys2Proof

/-- The words that are not illegal: the ten legal command words (30_encoding.md R82) and the two words that name no
selector (R78). -/
def knownWords : List Word :=
  [0x01, 0x11, 0x21, 0x02, 0x03, 0x04, 0x05, 0x06, 0x16, 0x26, 0x31, 0x36]

/-- A term is well formed when some word decodes to it: a selector operand names a selector (R76), and an illegal
word is none of the known words (R77, R82). -/
def Instr.wf : Instr → Bool
  | .init sel => sel != 3
  | .setGain sel => sel != 3
  | .illegal w => !knownWords.contains w
  | .waitReady => true
  | .read => true
  | .sleep => true
  | .wake => true
  | .invalidInit => true
  | .invalidSetGain => true

end Sys2Proof
end

