-- ==== Sys2Proof/Decode.lean ====
section
/-! DEFINITION. The decoder, total on every 32-bit word (30_encoding.md R79), and the encoder, written from the
format of R71 and the opcode map of R73. A word that stands for no command is rejected by name: it decodes to
`invalidInit`, `invalidSetGain` or `illegal`. -/

namespace Sys2Proof

/-- OP = w[3:0] (R71). -/
def fieldOp (w : Word) : BitVec 4 := w.extractLsb' 0 4

/-- SEL = w[5:4] (R71), unsigned, neither scaled nor shifted (R75). -/
def fieldSel (w : Word) : Sel := w.extractLsb' 4 2

/-- RSVD = w[31:6] (R71). -/
def fieldRsvd (w : Word) : BitVec 26 := w.extractLsb' 6 26

/-- The command of an opcode that takes no SEL operand (R73, R74). -/
def plainCommand (op : BitVec 4) : Option Instr :=
  if op = 0x2 then some .waitReady
  else if op = 0x3 then some .read
  else if op = 0x4 then some .sleep
  else if op = 0x5 then some .wake
  else none

/-- The decoder of R79. -/
def decode (w : Word) : Instr :=
  if fieldRsvd w ≠ 0 then .illegal w
  else if fieldOp w = 0x1 then
    if fieldSel w = 3 then .invalidInit else .init (fieldSel w)
  else if fieldOp w = 0x6 then
    if fieldSel w = 3 then .invalidSetGain else .setGain (fieldSel w)
  else if fieldSel w ≠ 0 then .illegal w
  else (plainCommand (fieldOp w)).getD (.illegal w)

/-- A word from its fields: RSVD = 0 in bits 31..6, SEL in bits 5..4, OP in bits 3..0 (R71). -/
def cmdWord (sel : Sel) (op : BitVec 4) : Word := (0 : BitVec 26) ++ sel ++ op

/-- The word of an instruction (R71, R73, R78). -/
def encode : Instr → Word
  | .init sel => cmdWord sel 0x1
  | .waitReady => cmdWord 0 0x2
  | .read => cmdWord 0 0x3
  | .sleep => cmdWord 0 0x4
  | .wake => cmdWord 0 0x5
  | .setGain sel => cmdWord sel 0x6
  | .invalidInit => cmdWord 3 0x1
  | .invalidSetGain => cmdWord 3 0x6
  | .illegal w => w

/-- The command word that `nbits` bits of the opcode table stand for: the bits above `nbits` are 0. -/
def tableWord (nbits w : Nat) : Word := BitVec.ofNat 32 (w % 2 ^ nbits)

/-- The instruction the decoder reads from the table's bits. A command is exactly one 32-bit word (R72), so more
than 32 bits are no command. -/
def decodeTableWord (nbits w : Nat) : Option Instr :=
  if nbits ≤ 32 then some (decode (tableWord nbits w)) else none

end Sys2Proof
end

