-- ==== Sys2Proof/Machine/State.lean ====
section
/-! DEFINITION. The state of one engine instance and of what stands around it (10_state.md R21, R40, R43): plain
data. Also the reasons a step can stop, and the state after reset (70_reset_and_hazards.md R134). -/

namespace Sys2Proof.Machine

/-- The status codes of STATUS.ERR (60_exceptions.md R115), by name. -/
inductive Status where
  | ok
  | configError
  | notInitialized
  | notReady
  | ioError
  | invalidArgument
  | asleep
  | illegal
deriving DecidableEq, Repr

/-- s.op: the running command, or `none` when idle (10_state.md R21). SET_GAIN is held only within its own write
step, so no state between steps shows it. -/
inductive Op where
  | none
  | init
  | waitReady
  | read
  | sleep
  | wake
  | setGain
deriving DecidableEq, Repr

/-- s.pp: the sequencer position, IDLE or a program point of the running command (10_state.md R28, R31). -/
inductive Point where
  | idle
  | iCfgSck | iCfgDout | iSettle | iCommit
  | wSample | wPoll
  | rwSample | rwPoll
  | dRise | dHigh | dSample | dFall | dLow
  | tRise | tHigh | tFall | tLow
  | rCommit
  | sSet | sHold | sCommit
  | kSet | kSettle | kCommit
deriving DecidableEq, Repr

/-- How the pin layer has a line configured (20_memory.md R52, 70_reset_and_hazards.md R136). -/
inductive PinMode where
  | unconfigured
  /-- Output, driven low when configured: SCK. -/
  | output
  /-- Input with pull-up: DOUT. -/
  | inputPullup
deriving DecidableEq, Repr

/-- The four host registers (10_state.md R32). -/
inductive Reg where
  | cmd
  | arg
  | status
  | result
deriving DecidableEq, Repr

/-- One operation of a host program (30_encoding.md R81, R83). -/
inductive HostOp where
  /-- `wr REG, imm` -/
  | wr (r : Reg) (v : Word)
  /-- `rd REG` -/
  | rd (r : Reg)
  /-- `idle n` -/
  | idle (n : Nat)
  /-- `sync`: read STATUS until BUSY = 0. -/
  | sync
deriving DecidableEq, Repr

/-- A change of DOUT by the sensor (20_memory.md R59 (c)). -/
inductive SensorEvent where
  /-- The sensor drives DOUT to a level. -/
  | drive (l : Level)
  /-- The sensor stops driving DOUT, or is disconnected from it (R60). -/
  | release
  /-- A conversion with this code becomes ready, and the sensor drives DOUT low (R61, R62). -/
  | convert (code : Code)
deriving DecidableEq, Repr

/-- One entry of the order in which the agents move (20_memory.md R43, R59). An entry is an input of the model: the
spec leaves the order, the sensor's moves and the outcome of each pin operation open. -/
inductive Turn where
  /-- The host makes its next access. -/
  | host
  /-- The sensor changes DOUT. -/
  | sensor (e : SensorEvent)
  /-- The block itself moves: the engine event if one is enabled, and otherwise the time step. `pinErr` is the draw
  of R55: the event's pin operation returns err. -/
  | block (pinErr : Bool)
  /-- The block is reset (70_reset_and_hazards.md R137). -/
  | reset
deriving DecidableEq, Repr

/-- What stands between the sensor's conversions and their reads (20_memory.md R61, R64, R67). -/
inductive Offer where
  /-- No conversion is ready, and no pulse has come since the latest one became ready. -/
  | none
  /-- A conversion is ready, and no pulse of its read has come. -/
  | ready
  /-- Pulses of the latest conversion's read have come, and the next one is not ready. -/
  | read
  /-- The same, but the sensor has been powered down or up since, or its state is unknown: what pulses come now are not
  known to be of a conversion's read. -/
  | stale
deriving DecidableEq, Repr

/-- Whether the sensor's state is known. While it is not, its answers are draws, and so is what it programs. -/
inductive View where
  | known
  /-- Unknown from a reset until an INIT has configured the lines (70_reset_and_hazards.md R136). -/
  | untilInit
  /-- Unknown from an IO_ERROR, or from a reset in the middle of a command, until the sensor has been power-cycled
  (41_acquire.md R96, 70_reset_and_hazards.md R137, R144). -/
  | untilRecovery
deriving DecidableEq, Repr

/-- The sensor as the protocol shows it (10_state.md R40, 20_memory.md section 6). It is environment: the engine's
rules never read it, and only the conforming-sensor premise does. -/
structure Sensor where
  /-- Whether a conversion is ready, or has been read (R61, R67). -/
  offer : Offer
  /-- The code of the latest conversion (R62, R63). -/
  code : Code
  /-- The selector the latest conversion was made with; `none` is a draw. -/
  codeSel : Option Selector
  /-- The selector of the next conversion (R64); `none` is a draw (R67). -/
  nextSel : Option Selector
  /-- The SCK pulses seen since the latest conversion became ready, or since the latest power-up. -/
  pulses : Nat
  /-- For how many ticks SCK has been high without a break (R65). -/
  highFor : Nat
  /-- In low-power mode (R65, R66). -/
  lowPower : Bool
  /-- Ticks left of the power-on settle delay (R66). -/
  settle : Nat
  /-- Whether all this is known. -/
  view : View
deriving DecidableEq, Repr

/-- The whole state. A field written `s.NAME` in the spec has that name here, less the `s.`. -/
structure State where
  /-- The configuration, which no step changes (70_reset_and_hazards.md R138). -/
  cfg : Config
  /-- The engine has been initialised (R22). -/
  init : Bool
  /-- The active selector (R23). -/
  sel : Sel
  /-- The last completed power command was SLEEP (R24). -/
  asleep : Bool
  /-- A command is running. -/
  busy : Bool
  /-- The status of the last completed command; ok while one runs. -/
  err : Status
  /-- RESULT holds the sample of the most recent READ (R25). -/
  valid : Bool
  /-- A CMD write was dropped (60_exceptions.md R122). -/
  ovr : Bool
  /-- The last raw sample produced (R35). -/
  result : Word
  /-- The ARG register (R34). -/
  arg : Word
  /-- The shift accumulator of a READ (R26). -/
  acc : Code
  /-- Data bits shifted so far in the running READ, 0 to 24. -/
  bit : Nat
  /-- Trailing pulses emitted so far in the running READ, 0 to 3. -/
  trail : Nat
  /-- The running command. -/
  op : Op
  /-- The SEL operand of the running INIT, which I_COMMIT stores (40_init.md R85). -/
  opnd : Sel
  /-- The sequencer position. -/
  pp : Point
  /-- The tick at which the running ready wait began. -/
  t0 : Tick
  /-- The running ready wait's timeout in ticks. -/
  tmo : Tick
  /-- The tick at which the running Delay ends. -/
  due : Tick
  /-- The time base (20_memory.md R57). -/
  now : Tick
  /-- The configuration of the SCK line. -/
  sckMode : PinMode
  /-- The configuration of the DOUT line. -/
  doutMode : PinMode
  /-- The SCK level (20_memory.md R60). -/
  sck : Level
  /-- What the sensor drives DOUT to; `none` when it does not drive it. The DOUT level follows from this and from DOUT's
  configuration (20_memory.md R54, R60). -/
  doutDrive : Option Level
  /-- The level of a DOUT that is neither driven nor configured: the pin layer's (70_reset_and_hazards.md R136,
  92_eei_decisions.md D37). -/
  doutFloat : Level
  /-- The sensor. -/
  sensor : Sensor
  /-- What is left of the host's program (30_encoding.md R81). -/
  host : List HostOp
  /-- The host program's read trace, oldest first (30_encoding.md R81). -/
  trace : List Word
  /-- The order of the coming moves; past its end the block, the host and the time step move by a fixed order
  (log entry 5). -/
  turns : List Turn
  /-- Which stream the free values are taken from, so that those of two instances are independent (log entry 17): the
  model's own field, no state of the spec. -/
  stream : Nat
  /-- How many free values have been taken: the model's own field, no state of the spec. -/
  draws : Nat
deriving DecidableEq, Repr

/-- The block has no fault (93_implementation_defined.md section 2: no item is treated as `fault` or `stuck`): no
step and no meaning raises one. -/
inductive Fault where
deriving DecidableEq, Repr

/-- Why the model gives a step no meaning. -/
inductive Refusal where
  /-- Raised by exec for an instruction whose meaning is not written yet; no arm raises it now. Safe. -/
  | notModelled (mnemonic : String)
  /-- Raised by step when a parameter is outside its legal range: "A model refuses such a configuration rather than
  giving it a meaning" (70_reset_and_hazards.md R147). Safe. -/
  | illegalConfig
deriving DecidableEq, Repr

/-- The sensor at power-on: its state is unknown until INIT has configured the lines (R67, 70_reset_and_hazards.md
R136; log entry 8). -/
def Sensor.powerOn : Sensor where
  offer := .none
  code := 0
  codeSel := none
  nextSel := none
  pulses := 0
  highFor := 0
  lowPower := false
  settle := 0
  view := .untilInit

/-- The machine right after reset (70_reset_and_hazards.md R134 to R136), with the default configuration. The lines
are not configured (92_eei_decisions.md D22) and their levels are free values: that SCK then keeps its one free value
until INIT configures it, and that no sensor drives DOUT before a turn says so, are the model's choices (log entries 24
and 16). -/
def State.reset : State where
  cfg := Config.default
  init := false
  sel := 0
  asleep := false
  busy := false
  err := .ok
  valid := false
  ovr := false
  result := 0
  arg := 0
  acc := 0
  bit := 0
  trail := 0
  op := .none
  opnd := 0
  pp := .idle
  t0 := 0
  tmo := 0
  due := 0
  now := Config.default.now0
  sckMode := .unconfigured
  doutMode := .unconfigured
  sck := Config.freeLevel 0 0
  doutDrive := none
  doutFloat := Config.freeLevel 0 1
  sensor := .powerOn
  host := []
  trace := []
  turns := []
  stream := 0
  draws := 2

end Sys2Proof.Machine
end

