-- ==== Sys2Proof/Machine/Flags.lean ====
section
/-! DEFINITION. The status codes' numbers (60_exceptions.md R115) and the STATUS word (10_state.md R36). The block
has no arithmetic flags: its flags are the STATUS bits (R27). -/

namespace Sys2Proof.Machine

/-- ERR, the 3-bit code of a status (R115). -/
def Status.code : Status → BitVec 3
  | .ok => 0
  | .configError => 1
  | .notInitialized => 2
  | .notReady => 3
  | .ioError => 4
  | .invalidArgument => 5
  | .asleep => 6
  | .illegal => 7

/-- STATUS = zext_32(sel ++ err ++ ovr ++ valid ++ asleep ++ init ++ busy) (R36). -/
def statusWord (s : State) : Word :=
  (s.sel ++ s.err.code ++ BitVec.ofBool s.ovr ++ BitVec.ofBool s.valid ++ BitVec.ofBool s.asleep
    ++ BitVec.ofBool s.init ++ BitVec.ofBool s.busy).setWidth 32

end Sys2Proof.Machine
end

