-- ==== Sys2Proof/Machine/Operands.lean ====
section
/-! DEFINITION. Operand assembly: the selector's pulse counts (30_encoding.md R76), the ready-wait timeouts (R75),
the delays in ticks (20_memory.md R57), bit insertion (R49) and sign extension (41_acquire.md R95). -/

namespace Sys2Proof.Machine

/-- trailing(SEL) = SEL + 1 (R76). -/
def trailingPulses (sel : Sel) : Nat := sel.toNat + 1

/-- pulses(SEL) = SEL + 25 (R76). -/
def totalPulses (sel : Sel) : Nat := sel.toNat + 25

/-- The selector a SEL value names (R76); 3 names none. -/
def selectorOf (sel : Sel) : Option Selector :=
  if sel = 0 then some .a128 else if sel = 1 then some .b32 else if sel = 2 then some .a64 else none

/-- What a read of a conversion with this many SCK pulses programs (20_memory.md R64); `none` is a draw (R67). -/
def selectorAfter (pulses : Nat) : Option Selector :=
  if pulses = 25 then some .a128 else if pulses = 26 then some .b32 else if pulses = 27 then some .a64 else none

/-- Milliseconds in ticks of 1 µs (20_memory.md R57). -/
def msTicks (ms : Nat) : Nat := ms * 1000

/-- A number of ticks as a value of the time base. -/
def ticks (n : Nat) : Tick := BitVec.ofNat 64 n

/-- WAIT_READY's timeout: zext_64(ARG) × 1000 ticks (R75). -/
def argTimeout (arg : Word) : Tick := arg.setWidth 64 * 1000

/-- READ's own timeout: zext_64(T_READ_TIMEOUT_MS) × 1000 ticks (41_acquire.md R92). -/
def readTimeout (c : Config) : Tick := ticks (msTicks c.tReadTimeoutMs)

/-- The shift of D_SAMPLE: acc[22:0] ++ r (R49, 41_acquire.md R92). -/
def shiftIn (acc : Code) (r : Level) : Code := acc.extractLsb' 0 23 ++ r

/-- sext_32 of a 24-bit code (00_scope.md R12, 41_acquire.md R95). -/
def sext32 (c : Code) : Word := c.signExtend 32

/-- Index i of the four host registers (10_state.md R32). -/
def regOfIndex (i : BitVec 2) : Reg :=
  if i = 0 then .cmd else if i = 1 then .arg else if i = 2 then .status else .result

/-- The 2-bit index of a host register (10_state.md R32). -/
def indexOfReg : Reg → BitVec 2
  | .cmd => 0
  | .arg => 1
  | .status => 2
  | .result => 3

end Sys2Proof.Machine
end

