-- ==== Sys2Proof/Machine/Sensor.lean ====
section
/-! DEFINITION. The lines and the sensor as the lines show it (20_memory.md section 6). The engine's rules never read
the `sensor` field: it serves the conforming-sensor premise alone (00_scope.md R7, 20_memory.md R60 to R67). -/

namespace Sys2Proof.Machine

/-- SCK high for more than this many ticks puts a conforming sensor into low-power mode (R65). -/
def lowPowerAfter : Nat := 60

/-- The power-on settle delay in ticks (R66, 00_scope.md R9). -/
def settleTicks (c : Config) : Nat := msTicks c.tSettleMs

/-- The DOUT level (R60): what the sensor drives it to. When the sensor does not drive it, the pull-up of a configured
DOUT holds it at 1, and the level of one that is not configured is the pin layer's (92_eei_decisions.md D37). -/
def State.dout (s : State) : Level :=
  match s.doutDrive with
  | some l => l
  | none =>
    match s.doutMode with
    | .inputPullup => 1
    | .unconfigured => s.doutFloat
    | .output => s.doutFloat

/-- The sensor's state is known. -/
def Sensor.known (x : Sensor) : Bool := x.view == .known

/-- A reset makes a known state unknown until the next INIT (70_reset_and_hazards.md R136). -/
def View.afterReset : View → View
  | .known => .untilInit
  | .untilInit => .untilInit
  | .untilRecovery => .untilRecovery

/-- INIT's configuration of the lines makes it known again, but not after an IO_ERROR or a reset in the middle of a
command (70_reset_and_hazards.md R136, R144; log entry 13). -/
def View.afterInit : View → View
  | .known => .known
  | .untilInit => .known
  | .untilRecovery => .untilRecovery

/-- A pulse comes: it begins or continues the read of the conversion on offer. -/
def Offer.pulse : Offer → Offer
  | .ready => .read
  | .read => .read
  | .none => .stale
  | .stale => .stale

/-- The sensor is powered down and up, or powered up: a conversion that was ready is lost, and that a pulse has come
since the latest one became ready stays so (R67; log entry 23). -/
def Offer.powerCycle : Offer → Offer
  | .none => .none
  | .ready => .none
  | .read => .stale
  | .stale => .stale

/-- SCK falls (R62, R64, R66). Out of low-power mode the sensor starts to settle and its next conversion is made with
SENSOR_SEL_AFTER_POWERUP; otherwise one pulse is complete, and if it is one of a conversion's read the count so
far decides what the next conversion uses (otherwise that is a draw). -/
def Sensor.fall (c : Config) (x : Sensor) : Sensor :=
  if x.lowPower then
    { x with
      lowPower := false, settle := settleTicks c, offer := x.offer.powerCycle, pulses := 0
      nextSel := c.selAfterPowerup }
  else
    { x with
      offer := x.offer.pulse, pulses := x.pulses + 1
      nextSel := if x.offer.pulse = .read then selectorAfter (x.pulses + 1) else none }

/-- SCK goes to level l: the sensor sees a falling edge, a rising edge or none. -/
def driveSck (l : Level) (s : State) : State :=
  { s with
    sck := l
    sensor :=
      if s.sck = 1 ∧ l = 0 then { s.sensor.fall s.cfg with highFor := 0 }
      else if s.sck = 0 ∧ l = 1 then { s.sensor with highFor := 0 }
      else s.sensor }

/-- One tick passes for the sensor (R65, R66). -/
def Sensor.tick (sck : Level) (x : Sensor) : Sensor :=
  if sck = 1 then
    { x with
      highFor := x.highFor + 1
      lowPower := x.lowPower || decide (lowPowerAfter < x.highFor + 1)
      settle := x.settle - 1 }
  else { x with settle := x.settle - 1 }

/-- INIT's configuration of SCK powers the sensor up (40_init.md R86): it settles anew, and its next conversion is
made with SENSOR_SEL_AFTER_POWERUP (43_gain_select.md R114). `was` is the sensor before SCK was driven low, which is
no pulse. -/
def powerUpSensor (was : Sensor) (s : State) : State :=
  { s with
    sensor :=
      { s.sensor with
        offer := was.offer.powerCycle, pulses := 0, settle := settleTicks s.cfg
        codeSel := s.cfg.selAfterPowerup, nextSel := s.cfg.selAfterPowerup } }

/-- What a WAKE means for the sensor beside SCK's fall: the first conversion after it is one with
SENSOR_SEL_AFTER_POWERUP (42_power.md R107 (e), 43_gain_select.md R114), and a power cycle out of low-power mode makes
the sensor's interface known again (70_reset_and_hazards.md R144). `was` is the sensor before the fall. -/
def wakeSensor (was : Sensor) (s : State) : State :=
  { s with
    sensor :=
      { s.sensor with
        codeSel := s.cfg.selAfterPowerup, nextSel := s.cfg.selAfterPowerup
        view := if was.lowPower then .known else s.sensor.view } }

/-- The sensor's state becomes unknown: its answers are draws, and so is what it programs. -/
def Sensor.lose (x : Sensor) : Sensor := { x with view := .untilRecovery, offer := .stale, nextSel := none }

/-- A reset of an idle block: the sensor's state is unknown until INIT has configured the lines
(70_reset_and_hazards.md R136), and what it would program is a draw. -/
def Sensor.forget (x : Sensor) : Sensor := { x with view := x.view.afterReset, nextSel := none }

/-- Both lines are configured (70_reset_and_hazards.md R136). -/
def Sensor.configured (x : Sensor) : Sensor := { x with view := x.view.afterInit }

/-- After an IO_ERROR the pulse count the sensor saw is unknown (41_acquire.md R96, 43_gain_select.md R114,
70_reset_and_hazards.md R144). -/
def loseSensor (s : State) : State := { s with sensor := s.sensor.lose }

/-- The sensor changes DOUT (R59 (c)). One that it releases has a free level until it is configured. A conversion that
becomes ready was made with the selector programmed before it (R64). -/
def sensorMove (e : SensorEvent) (s : State) : State :=
  match e with
  | .drive l => { s with doutDrive := some l }
  | .release =>
    { s with doutDrive := none, doutFloat := Config.freeLevel s.stream s.draws, draws := s.draws + 1 }
  | .convert code =>
    { s with
      doutDrive := some 0
      sensor := { s.sensor with offer := .ready, code := code, codeSel := s.sensor.nextSel, pulses := 0 } }

end Sys2Proof.Machine
end

