-- ==== Sys2Proof/Machine/Ops.lean ====
section
/-! DEFINITION. The shared operations: the pin primitives and the Delay (20_memory.md section 4, 00_scope.md R14), the
acceptance and completion updates (60_exceptions.md R120, R121), host register reads (20_memory.md R45), the time step
(R59 (d)) and the reset of the block (70_reset_and_hazards.md R137). The block has no trap: a command that fails
completes with a status, by the completion update (60_exceptions.md R124). -/

namespace Sys2Proof.Machine

/-! ## Pin primitives -/

/-- Whether a pin operation returns err: the draw `pinErr`, and never when PIN_FALLIBLE is false (20_memory.md
R55). -/
def pinFails (pinErr : Bool) (s : State) : Bool := pinErr && s.cfg.pinFallible

/-- PinCfg(SCK, OUTPUT_DRIVE_LOW) (R52): the state after it, and whether it returned ok. A failed one changes nothing
(log entry 11). -/
def pinCfgSck (pinErr : Bool) (s : State) : State × Bool :=
  if pinFails pinErr s then (s, false)
  else ({ powerUpSensor s.sensor (driveSck 0 s) with sckMode := .output }, true)

/-- PinCfg(DOUT, INPUT_PULLUP) (R52): from then on a DOUT that the sensor does not drive is 1 (R60). It is the second of
INIT's two configurations (70_reset_and_hazards.md R136). -/
def pinCfgDout (pinErr : Bool) (s : State) : State × Bool :=
  if pinFails pinErr s then (s, false)
  else ({ s with doutMode := .inputPullup, sensor := s.sensor.configured }, true)

/-- PinSet(SCK, l) (R53). After a failed one the SCK level is a free value. -/
def pinSetSck (l : Level) (pinErr : Bool) (s : State) : State × Bool :=
  if pinFails pinErr s then ({ driveSck (Config.freeLevel s.stream s.draws) s with draws := s.draws + 1 }, false)
  else (driveSck l s, true)

/-- PinGet(DOUT) (R54): the level sampled, or `none` for err. It has no side effect (R56). -/
def pinGetDout (pinErr : Bool) (s : State) : Option Level :=
  if pinFails pinErr s then none else some s.dout

/-! ## The sequencer's position and Delay -/

/-- The points whose primitive is a Delay (10_state.md R29). -/
def Point.isDelay : Point → Bool
  | .iSettle | .wPoll | .rwPoll | .dHigh | .dLow | .tHigh | .tLow | .sHold | .kSettle => true
  | .idle | .iCfgSck | .iCfgDout | .iCommit | .wSample | .rwSample | .dRise | .dSample | .dFall | .tRise | .tFall
  | .rCommit | .sSet | .sCommit | .kSet | .kCommit => false

/-- pc <- L, for a point L that is no Delay (00_scope.md R15). -/
def goTo (p : Point) (s : State) : State := { s with pp := p }

/-- Entering a Delay point: s.due <- now + d (10_state.md R29, 20_memory.md R58; log entry 4). -/
def holdAt (p : Point) (d : Nat) (s : State) : State := { s with pp := p, due := s.now + ticks d }

/-- An engine event is enabled: a command runs and, at a Delay point, the Delay has ended (20_memory.md R59 (b)). -/
def State.engineEnabled (s : State) : Bool :=
  s.busy && (s.pp != .idle) && (!s.pp.isDelay || s.now == s.due)

/-! ## Acceptance and completion -/

/-- The acceptance update (60_exceptions.md R120). -/
def acceptUpdate (s : State) : State := { s with busy := true, err := .ok, ovr := false }

/-- A CMD write while a command runs is dropped (20_memory.md R46, 60_exceptions.md R122). -/
def dropWord (s : State) : State := { s with ovr := true }

/-- The completion update (60_exceptions.md R121). `isRead`: the decoded command is READ. -/
def complete (isRead : Bool) (st : Status) (s : State) : State :=
  { s with
    err := st
    valid := if isRead && st != .ok then false else s.valid
    busy := false, op := .none, pp := .idle }

/-- `finish` of the running command (00_scope.md R15). -/
def finish (s : State) : State := complete (s.op == .read) .ok s

/-- `raise S` of the running command (00_scope.md R15). -/
def raiseStatus (st : Status) (s : State) : State := complete (s.op == .read) st s

/-- `raise IO_ERROR`: beside the status, the sensor's state is unknown (93_implementation_defined.md section 2,
70_reset_and_hazards.md R143, R144; log entry 13). -/
def raiseIo (s : State) : State := loseSensor (raiseStatus .ioError s)

/-- `try P else raise`: go on with `k` if the pin primitive returned ok, and otherwise with `e` (00_scope.md R14). -/
def tryPin (r : State × Bool) (e k : State → State) : State := if r.2 then k r.1 else e r.1

/-- The start of an accepted command (60_exceptions.md R119, check 6). -/
def startAt (op : Op) (p : Point) (s : State) : State := { s with op := op, pp := p }

/-- A write of a command word to CMD (20_memory.md R46): dropped while a command runs, and otherwise accepted, with
the checks and the start that `accept` makes after the acceptance update (60_exceptions.md R119). -/
def cmdWrite (accept : State → State) (s : State) : Host.Outcome State Fault Refusal :=
  .next (if s.busy then dropWord s else accept (acceptUpdate s))

/-- Check 4 of 60_exceptions.md R119: a command other than INIT needs s.init = 1. -/
def needInit (isRead : Bool) (k : State → State) (s : State) : State :=
  if s.init then k s else complete isRead .notInitialized s

/-- Check 5 of 60_exceptions.md R119: READ and WAIT_READY need s.asleep = 0. -/
def needAwake (isRead : Bool) (k : State → State) (s : State) : State :=
  if s.asleep then complete isRead .asleep s else k s

/-- The captures of a ready wait at acceptance (41_acquire.md R90, R92). -/
def startWait (tmo : Tick) (s : State) : State := { s with tmo := tmo, t0 := s.now }

/-- Elapsed time: now − t0 mod 2^64 (20_memory.md R57). -/
def elapsed (s : State) : Tick := s.now - s.t0

/-! ## Host register reads and the time step -/

/-- A host read of a register (20_memory.md R45): it changes no state. -/
def regRead (r : Reg) (s : State) : Word :=
  match r with
  | .cmd => 0
  | .arg => s.arg
  | .status => statusWord s
  | .result => s.result

/-- A tick passes for the host: it counts down a leading `idle n` (30_encoding.md R81). -/
def hostTick : List HostOp → List HostOp
  | .idle 0 :: h => hostTick h
  | .idle (n + 1) :: h => if n = 0 then h else .idle n :: h
  | h => h

/-- The time step now <- now + 1 (20_memory.md R59 (d)). -/
def timeStep (s : State) : State :=
  { s with now := s.now + 1, sensor := s.sensor.tick s.sck, host := hostTick s.host }

/-- A reset of the block (70_reset_and_hazards.md R134, R136, R137): the block's state goes to its reset values at once.
The line levels stay as they were, and the lines are not configured (92_eei_decisions.md D22). The sensor's state is
unknown until an INIT has configured the lines, and after a reset in the middle of a command until the recovery of
R144. -/
def resetBlock (s : State) : State :=
  { s with
    init := false, sel := 0, asleep := false, busy := false, err := .ok, valid := false, ovr := false
    result := 0, arg := 0, acc := 0, bit := 0, trail := 0, op := .none, opnd := 0, pp := .idle
    t0 := 0, tmo := 0, due := 0, now := s.cfg.now0
    sckMode := .unconfigured, doutMode := .unconfigured, doutFloat := s.dout
    sensor := if s.busy then s.sensor.lose else s.sensor.forget }

end Sys2Proof.Machine
end

