-- ==== Sys2Proof/Machine/Acquire.lean ====
section
/-! DEFINITION. WAIT_READY and READ: acceptance and program points (41_acquire.md R90 to R103). -/

namespace Sys2Proof.Machine

/-- WAIT_READY written to CMD (R90): checks 4 and 5, then the captures of ARG and of now. -/
def execWaitReady (s : State) : Host.Outcome State Fault Refusal :=
  cmdWrite (needInit false (needAwake false
    (fun s => startAt .waitReady .wSample (startWait (argTimeout s.arg) s)))) s

/-- READ written to CMD (R92): checks 4 and 5, then the captures of its own timeout and of now. -/
def execRead (s : State) : Host.Outcome State Fault Refusal :=
  cmdWrite (needInit true (needAwake true
    (fun s => startAt .read .rwSample (startWait (readTimeout s.cfg) s)))) s

/-- One sample of a ready wait (R90, R92): err, ready, timed out, or a poll Delay at `poll`. -/
def readySample (pinErr : Bool) (onErr onReady : State → State) (poll : Point) (s : State) : State :=
  match pinGetDout pinErr s with
  | none => onErr s
  | some r =>
    if r = 0 then onReady s
    else if s.tmo ≤ elapsed s then raiseStatus .notReady s
    else holdAt poll s.cfg.tPollUs s

/-- W_SAMPLE. -/
def pointWSample (pinErr : Bool) (s : State) : State :=
  readySample pinErr raiseIo finish .wPoll s

/-- W_POLL: the Delay has ended; pc <- W_SAMPLE. -/
def pointWPoll (s : State) : State := goTo .wSample s

/-- RW_SAMPLE. A ready sample clears the working state and goes to D_RISE. -/
def pointRwSample (pinErr : Bool) (s : State) : State :=
  readySample pinErr raiseIo (fun s => goTo .dRise { s with acc := 0, bit := 0, trail := 0 }) .rwPoll s

/-- RW_POLL: the Delay has ended; pc <- RW_SAMPLE. -/
def pointRwPoll (s : State) : State := goTo .rwSample s

/-- D_RISE: try PinSet(SCK, 1) else raise IO_ERROR. -/
def pointDRise (pinErr : Bool) (s : State) : State :=
  tryPin (pinSetSck 1 pinErr s) raiseIo (holdAt .dHigh s.cfg.tHighUs)

/-- D_HIGH: Delay(T_HIGH_US) has ended. -/
def pointDHigh (s : State) : State := goTo .dSample s

/-- D_SAMPLE: s.acc <- s.acc[22:0] ++ r, s.bit <- s.bit + 1. -/
def pointDSample (pinErr : Bool) (s : State) : State :=
  match pinGetDout pinErr s with
  | none => raiseIo s
  | some r => goTo .dFall { s with acc := shiftIn s.acc r, bit := s.bit + 1 }

/-- D_FALL: try PinSet(SCK, 0) else raise IO_ERROR. -/
def pointDFall (pinErr : Bool) (s : State) : State :=
  tryPin (pinSetSck 0 pinErr s) raiseIo (holdAt .dLow s.cfg.tLowUs)

/-- D_LOW: Delay(T_LOW_US) has ended; back to D_RISE while s.bit < 24. -/
def pointDLow (s : State) : State := goTo (if s.bit < 24 then .dRise else .tRise) s

/-- T_RISE: try PinSet(SCK, 1) else raise IO_ERROR. -/
def pointTRise (pinErr : Bool) (s : State) : State :=
  tryPin (pinSetSck 1 pinErr s) raiseIo (holdAt .tHigh s.cfg.tHighUs)

/-- T_HIGH: Delay(T_HIGH_US) has ended. A trailing pulse takes no sample (R94). -/
def pointTHigh (s : State) : State := goTo .tFall s

/-- T_FALL: try PinSet(SCK, 0) else raise IO_ERROR; s.trail <- s.trail + 1. -/
def pointTFall (pinErr : Bool) (s : State) : State :=
  tryPin (pinSetSck 0 pinErr s) raiseIo (fun s => holdAt .tLow s.cfg.tLowUs { s with trail := s.trail + 1 })

/-- T_LOW: Delay(T_LOW_US) has ended; back to T_RISE while s.trail < s.sel + 1. -/
def pointTLow (s : State) : State := goTo (if s.trail < trailingPulses s.sel then .tRise else .rCommit) s

/-- R_COMMIT: s.result <- sext_32(s.acc), s.valid <- 1, finish. -/
def pointRCommit (s : State) : State := finish { s with result := sext32 s.acc, valid := true }

end Sys2Proof.Machine
end

