-- ==== Sys2Proof/Machine/GainSelect.lean ====
section
/-! DEFINITION. SET_GAIN (43_gain_select.md R110 to R114). -/

namespace Sys2Proof.Machine

/-- SET_GAIN(SEL) written to CMD (R110): check 4, then s.sel <- SEL and finish, in the step of the write
(60_exceptions.md R121). It has no program point and makes no line operation (R111 (a)). -/
def execSetGain (sel : Sel) (s : State) : Host.Outcome State Fault Refusal :=
  cmdWrite (needInit false (fun s => finish { s with op := .setGain, sel := sel })) s

end Sys2Proof.Machine
end

