-- ==== Sys2Proof/Machine/Init.lean ====
section
/-! DEFINITION. INIT: acceptance and program points (40_init.md R85 to R89). -/

namespace Sys2Proof.Machine

/-- INIT(SEL) written to CMD (R85): check 3 of 60_exceptions.md R119, then the sequencer starts at I_CFG_SCK. -/
def execInit (sel : Sel) (s : State) : Host.Outcome State Fault Refusal :=
  cmdWrite (fun s => if s.init then complete false .illegal s else startAt .init .iCfgSck { s with opnd := sel }) s

/-- I_CFG_SCK: try PinCfg(SCK, OUTPUT_DRIVE_LOW) else raise CONFIG_ERROR. -/
def pointICfgSck (pinErr : Bool) (s : State) : State :=
  tryPin (pinCfgSck pinErr s) (raiseStatus .configError) (goTo .iCfgDout)

/-- I_CFG_DOUT: try PinCfg(DOUT, INPUT_PULLUP) else raise CONFIG_ERROR. -/
def pointICfgDout (pinErr : Bool) (s : State) : State :=
  tryPin (pinCfgDout pinErr s) (raiseStatus .configError) (holdAt .iSettle (settleTicks s.cfg))

/-- I_SETTLE: Delay(T_SETTLE_MS * 1000) has ended. -/
def pointISettle (s : State) : State := goTo .iCommit s

/-- I_COMMIT: s.sel <- SEL, s.init <- 1, s.asleep <- 0, finish. -/
def pointICommit (s : State) : State := finish { s with sel := s.opnd, init := true, asleep := false }

end Sys2Proof.Machine
end

