-- ==== Sys2Proof/Machine/Power.lean ====
section
/-! DEFINITION. SLEEP and WAKE: acceptance and program points (42_power.md R104 to R109). -/

namespace Sys2Proof.Machine

/-- SLEEP written to CMD (R104): check 4 only; accepted whatever s.asleep is. -/
def execSleep (s : State) : Host.Outcome State Fault Refusal :=
  cmdWrite (needInit false (startAt .sleep .sSet)) s

/-- WAKE written to CMD (R106): check 4 only; accepted whatever s.asleep is. -/
def execWake (s : State) : Host.Outcome State Fault Refusal :=
  cmdWrite (needInit false (startAt .wake .kSet)) s

/-- S_SET: try PinSet(SCK, 1) else raise IO_ERROR. -/
def pointSSet (pinErr : Bool) (s : State) : State :=
  tryPin (pinSetSck 1 pinErr s) raiseIo (holdAt .sHold s.cfg.tSleepUs)

/-- S_HOLD: Delay(T_SLEEP_US) has ended. -/
def pointSHold (s : State) : State := goTo .sCommit s

/-- S_COMMIT: s.asleep <- 1, finish. SCK stays high (R105 (a)). -/
def pointSCommit (s : State) : State := finish { s with asleep := true }

/-- K_SET: try PinSet(SCK, 0) else raise IO_ERROR. -/
def pointKSet (pinErr : Bool) (s : State) : State :=
  tryPin (pinSetSck 0 pinErr s) raiseIo (fun t => holdAt .kSettle (settleTicks t.cfg) (wakeSensor s.sensor t))

/-- K_SETTLE: Delay(T_SETTLE_MS * 1000) has ended. -/
def pointKSettle (s : State) : State := goTo .kCommit s

/-- K_COMMIT: s.asleep <- 0, finish. -/
def pointKCommit (s : State) : State := finish { s with asleep := false }

end Sys2Proof.Machine
end

