-- ==== Sys2Proof/Machine/Reject.lean ====
section
/-! DEFINITION. The words that stand for no command: checks 1 and 2 of 60_exceptions.md R119 (30_encoding.md R77,
R78). Each completes in the step of its write, with its status and no other effect. -/

namespace Sys2Proof.Machine

/-- The word of INIT with SEL = 3 completes at once with INVALID_ARGUMENT (R78). -/
def execInvalidInit (s : State) : Host.Outcome State Fault Refusal :=
  cmdWrite (complete false .invalidArgument) s

/-- The word of SET_GAIN with SEL = 3 completes at once with INVALID_ARGUMENT (R78). -/
def execInvalidSetGain (s : State) : Host.Outcome State Fault Refusal :=
  cmdWrite (complete false .invalidArgument) s

/-- An illegal word completes at once with ILLEGAL (R77); the word is not kept (60_exceptions.md R116). -/
def execIllegal (_w : Word) (s : State) : Host.Outcome State Fault Refusal :=
  cmdWrite (complete false .illegal) s

end Sys2Proof.Machine
end

