-- ==== Sys2Proof/Machine/Dispatch.lean ====
section
/-! DEFINITION. The meaning of every instruction: what the write of its word to CMD does. -/

namespace Sys2Proof.Machine

def exec (i : Instr) (s : State) : Host.Outcome State Fault Refusal :=
  match i with
  | .init sel => Sys2Proof.Machine.execInit sel s
  | .waitReady => Sys2Proof.Machine.execWaitReady s
  | .read => Sys2Proof.Machine.execRead s
  | .sleep => Sys2Proof.Machine.execSleep s
  | .wake => Sys2Proof.Machine.execWake s
  | .setGain sel => Sys2Proof.Machine.execSetGain sel s
  | .invalidInit => Sys2Proof.Machine.execInvalidInit s
  | .invalidSetGain => Sys2Proof.Machine.execInvalidSetGain s
  | .illegal w => Sys2Proof.Machine.execIllegal w s

end Sys2Proof.Machine
end

