-- ==== Sys2Proof/Machine/Sequencer.lean ====
section
/-! DEFINITION. The engine event at the sequencer's position (10_state.md R29, R31). -/

namespace Sys2Proof.Machine

/-- The engine event at s.pp, run as one atomic event. `pinErr` is the draw of the point's pin operation. At IDLE
there is none. -/
def engineEvent (pinErr : Bool) (s : State) : State :=
  match s.pp with
  | .idle => s
  | .iCfgSck => pointICfgSck pinErr s
  | .iCfgDout => pointICfgDout pinErr s
  | .iSettle => pointISettle s
  | .iCommit => pointICommit s
  | .wSample => pointWSample pinErr s
  | .wPoll => pointWPoll s
  | .rwSample => pointRwSample pinErr s
  | .rwPoll => pointRwPoll s
  | .dRise => pointDRise pinErr s
  | .dHigh => pointDHigh s
  | .dSample => pointDSample pinErr s
  | .dFall => pointDFall pinErr s
  | .dLow => pointDLow s
  | .tRise => pointTRise pinErr s
  | .tHigh => pointTHigh s
  | .tFall => pointTFall pinErr s
  | .tLow => pointTLow s
  | .rCommit => pointRCommit s
  | .sSet => pointSSet pinErr s
  | .sHold => pointSHold s
  | .sCommit => pointSCommit s
  | .kSet => pointKSet pinErr s
  | .kSettle => pointKSettle s
  | .kCommit => pointKCommit s

end Sys2Proof.Machine
end

