-- ==== Sys2Proof/Machine/Turns.lean ====
section
/-! DEFINITION. The system step of 20_memory.md R59: which of its moves happens next, and what the move does. -/

namespace Sys2Proof.Machine

/-- The moves of R59 and, beside them, the reset of the block. -/
inductive Move where
  /-- (a) a host access. -/
  | host
  /-- (b) an engine event. -/
  | engine (pinErr : Bool)
  /-- (c) a sensor change of DOUT. -/
  | sensor (e : SensorEvent)
  /-- (d) a time step. -/
  | tick
  /-- The block is reset (70_reset_and_hazards.md R137). -/
  | reset
deriving DecidableEq, Repr

/-! ## Host accesses -/

/-- The host's program less the `idle 0` operations it begins with: they let no tick pass (30_encoding.md R81). -/
def skipIdle : List HostOp → List HostOp
  | .idle 0 :: h => skipIdle h
  | h => h

/-- The host has an access to make: its program is not at its end and not in an `idle`. -/
def hostHasAccess (h : List HostOp) : Bool :=
  match skipIdle h with
  | [] => false
  | .idle _ :: _ => false
  | .wr _ _ :: _ => true
  | .rd _ :: _ => true
  | .sync :: _ => true

/-- The host has an access to make that does not wait for the running command: a `sync` does while BUSY = 1. -/
def hostReady (s : State) : Bool :=
  hostHasAccess s.host && !(s.busy && (skipIdle s.host).head? == some .sync)

/-- A host write (20_memory.md R46 to R48): CMD presents a command word, ARG is stored, the others are ignored. -/
def regWrite (r : Reg) (v : Word) (s : State) : Host.Outcome State Fault Refusal :=
  match r with
  | .cmd => exec (decode v) s
  | .arg => .next { s with arg := v }
  | .status => .next s
  | .result => .next s

/-- MemRead(i, 4): the register of the 2-bit index i (20_memory.md R44). -/
def memRead (i : BitVec 2) (s : State) : Word := regRead (regOfIndex i) s

/-- MemWrite(i, 4, v): a write to the register of the 2-bit index i (20_memory.md R44). -/
def memWrite (i : BitVec 2) (v : Word) (s : State) : Host.Outcome State Fault Refusal := regWrite (regOfIndex i) v s

/-- The host's next access (30_encoding.md R81, R83). A `sync` reads STATUS, and its value stays in the trace only
when BUSY = 0 ends it. -/
def hostAccess (s : State) : Host.Outcome State Fault Refusal :=
  match skipIdle s.host with
  | .wr r v :: h => regWrite r v { s with host := h }
  | .rd r :: h => .next { s with host := h, trace := s.trace ++ [regRead r s] }
  | .sync :: h => .next (if s.busy then s else { s with host := h, trace := s.trace ++ [regRead .status s] })
  | .idle _ :: _ => .next s
  | [] => .next s

/-! ## Which move is next -/

/-- The block's own move: an enabled engine event is urgent, and time passes only when none is enabled (R59). -/
def blockMove (pinErr : Bool) (s : State) : Move := if s.engineEnabled then .engine pinErr else .tick

/-- The block's own move, with a free value for the outcome of its pin operation. -/
def freeBlockMove (s : State) : Move × State :=
  (blockMove (Config.freePinErr s.stream s.draws) s, { s with draws := s.draws + 1 })

/-- The next move and the state with its turn taken off the list. A host turn when the host has no access to make is
the block's. Past the end of the list: an enabled engine event, else a host access that is ready, else a time step
(log entry 5). -/
def nextMove (s : State) : Move × State :=
  match s.turns with
  | .host :: ts =>
    if hostHasAccess s.host then (.host, { s with turns := ts }) else freeBlockMove { s with turns := ts }
  | .sensor e :: ts => (.sensor e, { s with turns := ts })
  | .block pinErr :: ts => (blockMove pinErr s, { s with turns := ts })
  | .reset :: ts => (.reset, { s with turns := ts })
  | [] => if !s.engineEnabled && hostReady s then (.host, s) else freeBlockMove s

/-- What a move does. -/
def applyMove (m : Move) (s : State) : Host.Outcome State Fault Refusal :=
  match m with
  | .host => hostAccess s
  | .engine pinErr => .next (engineEvent pinErr s)
  | .sensor e => .next (sensorMove e s)
  | .tick => .next (timeStep s)
  | .reset => .next (resetBlock s)

/-- The system step: one move. A model refuses an illegal configuration (70_reset_and_hazards.md R147). -/
def systemStep (s : State) : Host.Outcome State Fault Refusal :=
  if s.cfg.legal then applyMove (nextMove s).1 (nextMove s).2 else .refused .illegalConfig

/-- Inputs arrive from outside between two steps: more turns behind those listed, and more operations behind the host's
program. The lists are finite at any instant and a run never ends for want of them (20_memory.md R59: host accesses and
sensor changes may happen at any instant). -/
def arrives (ts : List Turn) (ops : List HostOp) (s : State) : State :=
  { s with turns := s.turns ++ ts, host := s.host ++ ops }

/-- The state in which the host's next access, and the next move, is the write of this word to CMD. -/
def presentWord (w : Word) (s : State) : State :=
  { s with host := .wr .cmd w :: s.host, turns := .host :: s.turns }

end Sys2Proof.Machine
end

