-- ==== Sys2Proof/Machine/Step.lean ====
section
/-! DEFINITION. One step, and how a command word comes to run. -/

namespace Sys2Proof.Machine

/-- One step of the system of 20_memory.md R59. -/
def step (s : State) : Host.Outcome State Fault Refusal := systemStep s

/-- The block fetches nothing (10_state.md R28): a command word runs when the host writes it to CMD. So the word is
put where the next step takes it from, the host's next access. -/
def State.withFetchWord (s : State) (nbits w : Nat) : State := presentWord (tableWord nbits w) s

end Sys2Proof.Machine
end

