-- ==== Sys2Proof/Machine/HostProgram.lean ====
section
/-! DEFINITION. The host-program syntax of 30_encoding.md section 5: the command mnemonics (R82) and the
pseudo-instructions (R83), each as the host operations it stands for. -/

namespace Sys2Proof.Machine

/-- The ten command mnemonics (R82). -/
inductive Mnemonic where
  | initA128 | initB32 | initA64
  | waitrdy
  | read
  | sleep
  | wake
  | setgainA128 | setgainB32 | setgainA64
deriving DecidableEq, Repr

/-- The word of a mnemonic (R82). -/
def Mnemonic.word : Mnemonic → Word
  | .initA128 => 0x00000001
  | .initB32 => 0x00000011
  | .initA64 => 0x00000021
  | .waitrdy => 0x00000002
  | .read => 0x00000003
  | .sleep => 0x00000004
  | .wake => 0x00000005
  | .setgainA128 => 0x00000006
  | .setgainB32 => 0x00000016
  | .setgainA64 => 0x00000026

/-- A mnemonic stands for one `wr CMD, word` (R82). -/
def Mnemonic.ops (m : Mnemonic) : List HostOp := [.wr .cmd m.word]

/-- `waitrdy ms`: wr ARG, ms, then wr CMD, 0x00000002 (R83). -/
def waitrdyMs (ms : Word) : List HostOp := .wr .arg ms :: Mnemonic.waitrdy.ops

/-- `do X`: X then sync (R83). -/
def doOps (x : List HostOp) : List HostOp := x ++ [.sync]

/-- `sample`: do read, then rd RESULT (R83). -/
def sampleOps : List HostOp := doOps Mnemonic.read.ops ++ [.rd .result]

end Sys2Proof.Machine
end

