-- ==== Sys2Proof/Machine/Instances.lean ====
section
/-! DEFINITION. Several sensors (60_exceptions.md R131, 20_memory.md R43): one engine instance for each, with its own
lines, sensor, state and view of the time base. -/

namespace Sys2Proof.Machine

/-- A system of instances. -/
structure Instances where
  engines : List State
deriving DecidableEq, Repr

/-- Instance `k` right after reset. Its free values, the levels of its lines before INIT among them, are a stream of its
own: nothing relates them to another instance's (93_implementation_defined.md section 2; log entries 7 and 17). -/
def State.resetOf (c : Config) (k : Nat) : State :=
  { State.reset with
    cfg := c, now := c.now0, stream := k, sck := Config.freeLevel k 0, doutFloat := Config.freeLevel k 1 }

/-- The system after reset: N_INSTANCES engines, each reset. -/
def Instances.reset (c : Config) : Instances where
  engines := (List.range c.nInstances).map (State.resetOf c)

/-- One step of instance `k`, in its own view of the time base; the others stand still. -/
def Instances.stepAt (k : Nat) (x : Instances) : Host.Outcome Instances Fault Refusal :=
  match x.engines[k]? with
  | none => .next x
  | some s =>
    match step s with
    | .next t => .next { engines := x.engines.set k t }
    | .fault r => .fault r
    | .refused r => .refused r

end Sys2Proof.Machine
end

