-- ==== Sys2Proof/Safety.lean ====
section
/-! DEFINITION. The terms that claims use: the invariant of the block, the conforming sensor (20_memory.md R60 to
R67) and what it implies, the ticks a running command still needs (70_reset_and_hazards.md R148, R149), runs and their
fairness (20_memory.md R59), and the schedules of the worked runs. -/

namespace Sys2Proof.Machine

/-! ## The invariant of the block -/

/-- The command whose program point this is (10_state.md R31). -/
def Point.op : Point → Op
  | .idle => .none
  | .iCfgSck | .iCfgDout | .iSettle | .iCommit => .init
  | .wSample | .wPoll => .waitReady
  | .rwSample | .rwPoll | .dRise | .dHigh | .dSample | .dFall | .dLow | .tRise | .tHigh | .tFall | .tLow
  | .rCommit => .read
  | .sSet | .sHold | .sCommit => .sleep
  | .kSet | .kSettle | .kCommit => .wake

/-- The length of a Delay point's Delay (40_init.md to 42_power.md); 0 at a point that is none. -/
def Point.delay (c : Config) : Point → Nat
  | .iSettle | .kSettle => settleTicks c
  | .wPoll | .rwPoll => c.tPollUs
  | .dHigh | .tHigh => c.tHighUs
  | .dLow | .tLow => c.tLowUs
  | .sHold => c.tSleepUs
  | .idle | .iCfgSck | .iCfgDout | .iCommit | .wSample | .rwSample | .dRise | .dSample | .dFall | .tRise | .tFall
  | .rCommit | .sSet | .sCommit | .kSet | .kCommit => 0

/-- The ticks left until s.due. -/
def ticksToDue (s : State) : Nat := (s.due - s.now).toNat

/-- What the counters of a READ are at its points (41_acquire.md R92 to R94). -/
def readCounts (s : State) : Prop :=
  match s.pp with
  | .dRise | .dHigh | .dSample => s.bit < 24 ∧ s.trail = 0
  | .dFall | .dLow => 1 ≤ s.bit ∧ s.trail = 0
  | .tRise | .tHigh | .tFall => s.bit = 24 ∧ s.trail < trailingPulses s.sel
  | .tLow => s.bit = 24 ∧ 1 ≤ s.trail ∧ s.trail ≤ trailingPulses s.sel
  | .rCommit => s.bit = 24 ∧ s.trail = trailingPulses s.sel
  | .idle | .iCfgSck | .iCfgDout | .iSettle | .iCommit | .wSample | .wPoll | .rwSample | .rwPoll | .sSet | .sHold
  | .sCommit | .kSet | .kSettle | .kCommit => True

/-- The longest ready-wait timeout in ticks (30_encoding.md R75). -/
def maxTimeout : Nat := msTicks (2 ^ 32 - 1)

/-- The invariant of the block: it holds after reset and every step keeps it. -/
structure State.Inv (s : State) : Prop where
  /-- STATUS.SEL never reads 3 (10_state.md R37). -/
  selLegal : s.sel ≠ 3
  /-- A running INIT's operand names a selector (40_init.md R85). -/
  opndLegal : s.opnd ≠ 3
  /-- The sequencer is IDLE exactly when no command runs (10_state.md R28, R30). -/
  busyIff : s.busy = true ↔ s.pp ≠ .idle
  /-- The position is a point of the running command (10_state.md R31). -/
  opOfPoint : s.op = s.pp.op
  /-- ERR is 0 while a command runs (10_state.md R36). -/
  errRunning : s.busy = true → s.err = .ok
  /-- INIT runs only before initialisation and the other commands only after it (60_exceptions.md R119). -/
  initRunning : s.op ≠ .none → (s.init = true ↔ s.op ≠ .init)
  /-- WAIT_READY and READ run only awake (60_exceptions.md R119). -/
  awakeRunning : s.op = .read ∨ s.op = .waitReady → s.asleep = false
  /-- Before initialisation the flags and registers still hold their reset values (70_reset_and_hazards.md R134). -/
  uninit : s.init = false → s.asleep = false ∧ s.valid = false ∧ s.result = 0 ∧ s.sel = 0
  /-- RESULT is always sext_32 of a 24-bit code (10_state.md R35). -/
  resultSext : ∃ c : Code, s.result = sext32 c
  /-- s.bit is 0..24 and s.trail 0..3 (10_state.md R21). -/
  counters : s.bit ≤ 24 ∧ s.trail ≤ 3
  readCounters : readCounts s
  /-- A ready wait's timeout is one that ARG or T_READ_TIMEOUT_MS can give. -/
  tmoBound : s.op = .read ∨ s.op = .waitReady → s.tmo.toNat ≤ maxTimeout
  /-- From INIT's configuration of a line on, the line is configured (40_init.md R86). -/
  sckConfigured : s.init = true ∨ s.pp ∈ [Point.iCfgDout, .iSettle, .iCommit] → s.sckMode = .output
  doutConfigured : s.init = true ∨ s.pp ∈ [Point.iSettle, .iCommit] → s.doutMode = .inputPullup
  /-- Until then DOUT is not configured (92_eei_decisions.md D22, D37). -/
  doutUnconfigured : s.init = false → s.pp ∉ [Point.iSettle, .iCommit] → s.doutMode = .unconfigured
  /-- A Delay never lasts longer than its length (20_memory.md R58). -/
  delayBound : s.pp.isDelay = true → ticksToDue s ≤ s.pp.delay s.cfg

/-! ## The conforming sensor -/

/-- The points from a READ's first rising edge to its commit. -/
def Point.shifts : Point → Bool
  | .dRise | .dHigh | .dSample | .dFall | .dLow | .tRise | .tHigh | .tFall | .tLow | .rCommit => true
  | .idle | .iCfgSck | .iCfgDout | .iSettle | .iCommit | .wSample | .wPoll | .rwSample | .rwPoll | .sSet | .sHold
  | .sCommit | .kSet | .kSettle | .kCommit => false

/-- The sensor answers by rule: it is awake and settled, and its state is known (R61, R66, R67). -/
def Sensor.answers (x : Sensor) : Bool := x.known && !x.lowPower && x.settle == 0

/-- The pulses that a READ has completed at its points (00_scope.md R18). -/
def pulsesDone (s : State) : Nat :=
  match s.pp with
  | .dRise | .dHigh | .dSample | .dLow => s.bit
  | .dFall => s.bit - 1
  | .tRise | .tHigh | .tFall | .tLow | .rCommit => 24 + s.trail
  | .idle | .iCfgSck | .iCfgDout | .iSettle | .iCommit | .wSample | .wPoll | .rwSample | .rwPoll | .sSet | .sHold
  | .sCommit | .kSet | .kSettle | .kCommit => 0

/-- The running READ reads a conversion that was ready when it began: the pulses of that conversion's read are exactly
the READ's own. A READ whose ready sample found DOUT = 0 before the next conversion was ready is no such one: its
pulses add to those of the read before, or are of no read (log entry 23). -/
def readsReady (s : State) : Prop :=
  (s.sensor.offer = .ready ∨ s.sensor.offer = .read) ∧ s.sensor.pulses = pulsesDone s

/-- The level a conforming sensor has on DOUT when the engine samples it. At a ready sample it is 0 when a conversion
is ready, and 1 when none is (R61), except from a read's pulses to the next ready conversion, where it is a draw,
whatever power-down or power-up comes in between (R67, 70_reset_and_hazards.md R145; log entry 23). In data pulse k of
the read of a conversion that was ready it is the code's bit 24 − k (R62). Elsewhere it is a draw (R67). -/
def doutConforms (s : State) : Prop :=
  s.sensor.answers = true →
    match s.pp with
    | .wSample | .rwSample =>
      (s.sensor.offer = .ready → s.dout = 0) ∧ (s.sensor.offer = .none → s.dout = 1)
    | .dSample => readsReady s → s.dout = BitVec.ofBool (s.sensor.code.getLsbD (23 - s.bit))
    | _ => True

/-- A conforming sensor's next conversion becomes ready only after a read, awake and settled (R61, R67). -/
def conversionConforms (s : State) : Prop :=
  s.sensor.known = true → s.sensor.answers = true ∧ s.pp.shifts = false

/-- The sensor's part in a move is that of a conforming sensor. -/
def moveConforms (m : Move) (s : State) : Prop :=
  match m with
  | .engine _ => doutConforms s
  | .sensor (.convert _) => conversionConforms s
  | .sensor (.drive _) => True
  | .sensor .release => True
  | .host => True
  | .tick => True
  | .reset => True

/-- The next step is one of a system with a conforming sensor. -/
def conforming (s : State) : Prop := moveConforms (nextMove s).1 (nextMove s).2

/-- At these points of an awake engine SCK is low. -/
def Point.sckLow : Point → Bool
  | .idle | .wSample | .wPoll | .rwSample | .rwPoll | .dRise | .dLow | .tRise | .tLow | .rCommit => true
  | .iCfgSck | .iCfgDout | .iSettle | .iCommit | .dHigh | .dSample | .dFall | .tHigh | .tFall | .sSet | .sHold
  | .sCommit | .kSet | .kSettle | .kCommit => false

/-- The accumulator holds the first s.bit bits of the sensor's code (41_acquire.md R93). -/
def accHoldsCode (s : State) : Prop := s.acc.toNat = s.sensor.code.toNat / 2 ^ (24 - s.bit)

/-- What the sensor and the engine agree on at the points of a READ of a ready conversion (41_acquire.md R93, R94,
20_memory.md R64). -/
def readAgrees (s : State) : Prop :=
  readsReady s →
    match s.pp with
    | .dRise | .dLow | .dHigh | .dSample | .dFall => accHoldsCode s
    | .tRise | .tHigh | .tFall => s.acc = s.sensor.code
    | .tLow => s.acc = s.sensor.code ∧ s.sensor.nextSel = selectorAfter s.sensor.pulses
    | .rCommit => s.acc = s.sensor.code ∧ s.sensor.nextSel = selectorOf s.sel
    | _ => True

/-- In a READ's high phases SCK has been high for no longer than the phase lasts (70_reset_and_hazards.md R141). -/
def highAgrees (s : State) : Prop :=
  match s.pp with
  | .dHigh | .tHigh => s.sck = 1 ∧ s.sensor.lowPower = false ∧ s.sensor.highFor + ticksToDue s ≤ 50
  | .dSample | .dFall | .tFall => s.sck = 1 ∧ s.sensor.lowPower = false ∧ s.sensor.highFor ≤ 50
  | _ => True

/-- The settle delay ends with INIT's and WAKE's own (42_power.md R107 (a), 70_reset_and_hazards.md R138). -/
def settleAgrees (s : State) : Prop :=
  match s.pp with
  | .iSettle => s.sck = 0 ∧ s.sensor.settle ≤ ticksToDue s
  | .iCommit => s.sck = 0 ∧ s.sensor.settle = 0
  | .kSettle => s.sck = 0 ∧ s.sensor.settle ≤ ticksToDue s
  | .kCommit => s.sck = 0 ∧ s.sensor.settle = 0
  | _ => s.init = true → s.sensor.settle = 0

/-- What holds between the engine and a conforming sensor, as long as the sensor's state is known. -/
structure SensorInv (s : State) : Prop where
  /-- A low SCK wakes the sensor (R66). -/
  lowWakes : s.sck = 0 → s.sensor.lowPower = false
  /-- The sensor's state is unknown until an INIT has configured the lines (70_reset_and_hazards.md R136). -/
  unknownUntilInit : s.init = false → s.pp ∉ [Point.iSettle, .iCommit] → s.sensor.known = false
  /-- From then on it is unknown only while it waits for the recovery of R144. -/
  initEndsDoubt : s.init = true ∨ s.pp ∈ [Point.iSettle, .iCommit] → s.sensor.view ≠ .untilInit
  /-- A conversion that is ready has not been read at all. -/
  readyFresh : s.sensor.offer = .ready → s.sensor.pulses = 0
  /-- One that is being read has seen a pulse. -/
  readCounted : s.sensor.offer = .read → s.sensor.pulses ≠ 0
  /-- SCK is low between the pulses and between the commands of an initialised, awake engine. -/
  sckLow : s.sensor.known = true → s.init = true → s.asleep = false → s.pp.sckLow = true → s.sck = 0
  high : s.sensor.known = true → highAgrees s
  /-- INIT's configuration of SCK has powered the sensor up (40_init.md R86). -/
  poweredUp : s.pp = .iCfgDout → s.sck = 0 ∧ s.sensor.settle ≤ settleTicks s.cfg
  settled : s.sensor.known = true → settleAgrees s
  reads : s.sensor.known = true → readAgrees s

/-- The one-reading lag: `c` is the selector that the latest READ programmed. Until the next READ starts to shift, it
is the selector of the next conversion and of one that is ready; while a READ of a ready conversion shifts, that
conversion was made with it (43_gain_select.md R112). -/
def lagInv (c : Option Selector) (s : State) : Prop :=
  s.sensor.known = true →
    if s.pp.shifts then readsReady s → s.sensor.codeSel = c
    else s.sensor.nextSel = c ∧ (s.sensor.offer = .ready → s.sensor.codeSel = c)

/-! ## The ticks a command still needs -/

/-- The ticks of one pulse (00_scope.md R18). -/
def pulseTicks (c : Config) : Nat := c.tHighUs + c.tLowUs

/-- ⌈n / P⌉ × P, for the poll interval P (41_acquire.md R91). -/
def pollTicks (c : Config) (n : Nat) : Nat := (n + (c.tPollUs - 1)) / c.tPollUs * c.tPollUs

/-- The most ticks that a running command can still take (70_reset_and_hazards.md R148). -/
def ticksLeft (s : State) : Nat :=
  let trails := trailingPulses s.sel
  let pulse := pulseTicks s.cfg
  match s.pp with
  | .idle => 0
  | .iCfgSck | .iCfgDout | .kSet => settleTicks s.cfg
  | .iSettle | .sHold | .kSettle => ticksToDue s
  | .iCommit | .rCommit | .sCommit | .kCommit => 0
  | .sSet => s.cfg.tSleepUs
  | .wSample => pollTicks s.cfg (s.tmo.toNat - (elapsed s).toNat)
  | .wPoll => ticksToDue s + pollTicks s.cfg (s.tmo.toNat - (s.due - s.t0).toNat)
  | .rwSample => pollTicks s.cfg (s.tmo.toNat - (elapsed s).toNat) + totalPulses s.sel * pulse
  | .rwPoll =>
    ticksToDue s + pollTicks s.cfg (s.tmo.toNat - (s.due - s.t0).toNat) + totalPulses s.sel * pulse
  | .dRise => (24 - s.bit + trails) * pulse
  | .dHigh => ticksToDue s + s.cfg.tLowUs + (23 - s.bit + trails) * pulse
  | .dSample => s.cfg.tLowUs + (23 - s.bit + trails) * pulse
  | .dFall => s.cfg.tLowUs + (24 - s.bit + trails) * pulse
  | .dLow => ticksToDue s + (24 - s.bit + trails) * pulse
  | .tRise => (trails - s.trail) * pulse
  | .tHigh => ticksToDue s + s.cfg.tLowUs + (trails - s.trail - 1) * pulse
  | .tFall => s.cfg.tLowUs + (trails - s.trail - 1) * pulse
  | .tLow => ticksToDue s + (trails - s.trail) * pulse

/-- The worst-case duration of a command (70_reset_and_hazards.md R149); 0 for one that completes in its write. -/
def worstTicks (c : Config) : Instr → Nat
  | .init _ => settleTicks c
  | .wake => settleTicks c
  | .waitReady => pollTicks c maxTimeout
  | .read => pollTicks c (msTicks c.tReadTimeoutMs) + 27 * pulseTicks c
  | .sleep => c.tSleepUs
  | .setGain _ => 0
  | .invalidInit => 0
  | .invalidSetGain => 0
  | .illegal _ => 0

/-! ## Runs -/

/-- `n` steps. -/
def runSteps (n : Nat) (s : State) : Host.Outcome State Fault Refusal := Host.Core.run Sys2Proof.core n s

/-- The write of a command's word, and then `n` steps. -/
def runCommand (i : Instr) (n : Nat) (s : State) : Host.Outcome State Fault Refusal :=
  match exec i s with
  | .next t => runSteps n t
  | .fault r => .fault r
  | .refused r => .refused r

/-- An infinite run: each step, and the inputs that arrive after it. -/
structure InputRun (r : Nat → State) : Prop where
  steps : ∀ n, ∃ t ts ops, step (r n) = .next t ∧ r (n + 1) = arrives ts ops t

/-- An infinite run that lets time pass infinitely often (20_memory.md R59, fairness). -/
structure FairRun (r : Nat → State) : Prop extends InputRun r where
  fair : ∀ n, ∃ m, n ≤ m ∧ (nextMove (r m)).1 = .tick

/-- `t` is reached from `s` in `n` steps, with any host accesses and sensor changes in between, during all of which the
command of `s` runs and no reset happens. -/
def commandRun : Nat → State → State → Prop
  | 0, s, t => s = t
  | n + 1, s, t => s.busy = true ∧ (nextMove s).1 ≠ .reset ∧ ∃ v, step s = .next v ∧ commandRun n v t

/-- The engine's operations on its lines (20_memory.md R52 to R54). -/
inductive LineOp where
  | cfgSck
  | cfgDout
  | set (l : Level)
  | get
deriving DecidableEq, Repr

/-- The line operation of a program point (10_state.md R29). -/
def Point.lineOp : Point → List LineOp
  | .iCfgSck => [.cfgSck]
  | .iCfgDout => [.cfgDout]
  | .wSample | .rwSample | .dSample => [.get]
  | .dRise | .tRise | .sSet => [.set 1]
  | .dFall | .tFall | .kSet => [.set 0]
  | .idle | .iSettle | .iCommit | .wPoll | .rwPoll | .dHigh | .dLow | .tHigh | .tLow | .rCommit | .sHold
  | .sCommit | .kSettle | .kCommit => []

/-- The line operations of the next step: those of an engine event. -/
def stepLineOps (s : State) : List LineOp :=
  match (nextMove s).1 with
  | .engine _ => s.pp.lineOp
  | .host => []
  | .sensor _ => []
  | .tick => []
  | .reset => []

/-- What PinGet returns in the next step, if it is an engine event with a PinGet that does not fail. -/
def stepSamples (s : State) : List Level :=
  match (nextMove s).1 with
  | .engine e => if s.pp.lineOp = [.get] ∧ pinFails e s = false then [s.dout] else []
  | .host => []
  | .sensor _ => []
  | .tick => []
  | .reset => []

/-- What `f` lists of each of `n` steps, in order. -/
def traceOf {α : Type} (f : State → List α) : Nat → State → List α
  | 0, _ => []
  | n + 1, s =>
    match step s with
    | .next t => f s ++ traceOf f n t
    | .fault _ => []
    | .refused _ => []

/-- The line-event trace of `n` steps (41_acquire.md R98). -/
def lineTrace (n : Nat) (s : State) : List LineOp := traceOf stepLineOps n s

/-- The samples of DOUT in `n` steps. -/
def samples (n : Nat) (s : State) : List Level := traceOf stepSamples n s

/-! ## The schedules of the worked runs -/

/-- `n` moves of the block itself, each pin operation returning ok. -/
def quiet (n : Nat) : List Turn := List.replicate n (.block false)

/-- DOUT is 1 whatever follows but another change by the sensor: it is driven high, or it is configured and not
driven, as with a disconnected sensor (20_memory.md R60). -/
def holdsHigh (e : SensorEvent) (s : State) : Prop :=
  match e with
  | .drive l => l = 1
  | .release => s.doutMode = .inputPullup
  | .convert _ => False

/-- `j` samples that find DOUT = 1, each with its poll Delay, and then DOUT = 0. -/
def readyAt (c : Config) (j : Nat) : List Turn :=
  .sensor (.drive 1) :: quiet (j * (c.tPollUs + 2)) ++ [.sensor (.drive 0)]

/-- One change of DOUT, to hold it at 1, and then the whole ready wait of `tmo` ticks: ⌈tmo / P⌉ polls and the last
sample (41_acquire.md R91). -/
def neverReady (c : Config) (e : SensorEvent) (tmo : Nat) : List Turn :=
  .sensor e :: quiet (pollTicks c tmo / c.tPollUs * (c.tPollUs + 2) + 1)

/-- One data pulse in which the sensor sets DOUT to `b` before the sample. -/
def dataPulse (c : Config) (b : Level) : List Turn :=
  quiet (c.tHighUs + 2) ++ .sensor (.drive b) :: quiet (c.tLowUs + 3)

/-- The 24 bits of a code, most significant first (20_memory.md R49). -/
def codeBits (code : Code) : List Level := (List.range 24).map fun k => BitVec.ofBool (code.getLsbD (23 - k))

/-- A READ that is ready at sample `j` and shifts out `code`: the ready sample, 24 data pulses, the trailing pulses and
the commit. -/
def readTurns (c : Config) (sel : Sel) (j : Nat) (code : Code) : List Turn :=
  readyAt c j ++ quiet 1 ++ (codeBits code).flatMap (dataPulse c)
    ++ quiet (trailingPulses sel * (c.tHighUs + c.tLowUs + 4) + 1)

end Sys2Proof.Machine
end

