-- ==== Sys2Proof/Certificates/Slice0/Obligations.lean ====
section
/-! DEFINITION. The statements for the provers, one definition each. -/

open Sys2Proof Sys2Proof.Machine

/-! ## Encoding -/

/-- 30_encoding.md R82, R84: the words of the ten command mnemonics. -/
def Obligations.CommandWordsDecode : Prop :=
  decode 0x00000001 = .init 0 ∧ decode 0x00000011 = .init 1 ∧ decode 0x00000021 = .init 2
    ∧ decode 0x00000002 = .waitReady ∧ decode 0x00000003 = .read ∧ decode 0x00000004 = .sleep
    ∧ decode 0x00000005 = .wake ∧ decode 0x00000006 = .setGain 0 ∧ decode 0x00000016 = .setGain 1
    ∧ decode 0x00000026 = .setGain 2

/-- 30_encoding.md R82: each of the ten mnemonics stands for the write of its word to CMD, and these ten words are the
only ones that decode to a command. -/
def Obligations.OnlyTenWordsAreCommands : Prop :=
  [Mnemonic.initA128, .initB32, .initA64, .waitrdy, .read, .sleep, .wake, .setgainA128, .setgainB32, .setgainA64].map
      Mnemonic.ops
    = [0x01#32, 0x11#32, 0x21#32, 0x02#32, 0x03#32, 0x04#32, 0x05#32, 0x06#32, 0x16#32, 0x26#32].map
      (fun w => [HostOp.wr .cmd w])
  ∧ ∀ w : Word,
    ((∃ sel, decode w = .init sel) ∨ decode w = .waitReady ∨ decode w = .read ∨ decode w = .sleep
        ∨ decode w = .wake ∨ ∃ sel, decode w = .setGain sel)
      ↔ w ∈ [0x01#32, 0x11#32, 0x21#32, 0x02#32, 0x03#32, 0x04#32, 0x05#32, 0x06#32, 0x16#32, 0x26#32]

/-- 30_encoding.md R77: exactly these words are illegal, and an accepted one completes at once with ERR = ILLEGAL (7),
without a line operation or any other change. -/
def Obligations.IllegalWords : Prop :=
  ∀ w : Word,
    (decode w = .illegal w
      ↔ (w.extractLsb' 6 26 ≠ 0
        ∨ (w.extractLsb' 0 4 = 0#4 ∨ 7#4 ≤ w.extractLsb' 0 4)
        ∨ (w.extractLsb' 0 4 ∈ [2#4, 3#4, 4#4, 5#4] ∧ w.extractLsb' 4 2 ≠ 0#2)))
    ∧ ∀ s : State, s.busy = false → decode w = .illegal w →
      exec (decode w) s = .next { s with err := .illegal, ovr := false, busy := false, op := .none, pp := .idle }
        ∧ Status.illegal.code = 7

/-- 30_encoding.md R78: a word with OP in 1, 6, RSVD = 0 and SEL = 3 names no selector, and an accepted one completes at
once with ERR = INVALID_ARGUMENT (5) and changes no other state. -/
def Obligations.InvalidArgumentWords : Prop :=
  ∀ w : Word,
    (decode w = .invalidInit ↔ w.extractLsb' 0 4 = 1#4 ∧ w.extractLsb' 6 26 = 0 ∧ w.extractLsb' 4 2 = 3#2)
    ∧ (decode w = .invalidSetGain ↔ w.extractLsb' 0 4 = 6#4 ∧ w.extractLsb' 6 26 = 0 ∧ w.extractLsb' 4 2 = 3#2)
    ∧ ∀ s : State, s.busy = false → decode w = .invalidInit ∨ decode w = .invalidSetGain →
      exec (decode w) s = .next { s with
          err := .invalidArgument, ovr := false, busy := false, op := .none, pp := .idle }
        ∧ Status.invalidArgument.code = 5

/-- Decoding the word of a well-formed instruction gives it back, for every instruction and every operand. -/
def Obligations.DecodeOfEncode : Prop := ∀ i : Instr, i.wf = true → decode (encode i) = i

/-- Every word decodes to a well-formed instruction, whose word it is: no word has two meanings. -/
def Obligations.EncodeOfDecode : Prop := ∀ w : Word, (decode w).wf = true ∧ encode (decode w) = w

/-! ## The step -/

/-- 20_memory.md R46, 10_state.md R33: the host's write of a word to CMD presents it to the engine, and the step is
the meaning of the instruction the word decodes to. -/
def Obligations.StepRunsPresentedWord : Prop :=
  ∀ (s : State) (w : Word) (ts : List Turn) (ops : List HostOp),
    s.cfg.legal = true → s.turns = .host :: ts → s.host = .wr .cmd w :: ops →
    step s = exec (decode w) { s with turns := ts, host := ops }

/-- The fetch of the model's interface: the word placed is the instruction the next step runs (log entry 6). -/
def Obligations.StepRunsFetchWord : Prop :=
  ∀ (s : State) (nbits w : Nat) (i : Instr),
    s.cfg.legal = true → decodeTableWord nbits w = some i → step (s.withFetchWord nbits w) = exec i s

/-- A configuration with a parameter outside its legal range (00_scope.md R9, and N_INSTANCES of R10) is refused
(70_reset_and_hazards.md R147). That nothing else is, so that with a legal one every state has a next state, is read
from 93_implementation_defined.md section 2 (log entry 21, DEDUCED). -/
def Obligations.OnlyIllegalConfigIsRefused : Prop :=
  ∀ s : State,
    let legal := (1 ≤ s.cfg.tHighUs ∧ s.cfg.tHighUs ≤ 50) ∧ (1 ≤ s.cfg.tLowUs ∧ s.cfg.tLowUs < 2 ^ 32)
      ∧ (61 ≤ s.cfg.tSleepUs ∧ s.cfg.tSleepUs < 2 ^ 32) ∧ (1 ≤ s.cfg.tSettleMs ∧ s.cfg.tSettleMs < 2 ^ 32)
      ∧ (1 ≤ s.cfg.tPollUs ∧ s.cfg.tPollUs < 2 ^ 32) ∧ (100 ≤ s.cfg.tReadTimeoutMs ∧ s.cfg.tReadTimeoutMs ≤ 1000)
      ∧ 1 ≤ s.cfg.nInstances
    (¬legal → step s = .refused .illegalConfig) ∧ (legal → ∃ t, step s = .next t)

/-- 20_memory.md R59: the block's own move is an enabled engine event, and a time step only when none is enabled. -/
def Obligations.EngineEventsAreUrgent : Prop :=
  ∀ (s : State) (pinErr : Bool) (ts : List Turn),
    s.cfg.legal = true → s.turns = .block pinErr :: ts →
    step s = .next (if s.busy = true ∧ s.pp ≠ .idle ∧ (s.pp.isDelay = true → s.now = s.due)
      then engineEvent pinErr { s with turns := ts } else timeStep { s with turns := ts })

/-- 20_memory.md R57, R59: the time base moves only by a time step, which adds one tick and happens only when no engine
event is enabled; a reset sets it to NOW0. -/
def Obligations.TimeMovesOnlyByTimeStep : Prop :=
  ∀ s t : State,
    step s = .next t →
    (t.now = s.now ∧ (nextMove s).1 ≠ .tick)
      ∨ (t.now = s.now + 1 ∧ (nextMove s).1 = .tick ∧ s.engineEnabled = false)
      ∨ (t.now = s.cfg.now0 ∧ (nextMove s).1 = .reset)

/-! ## Host registers -/

/-- 10_state.md R36, 60_exceptions.md R115: the fields of STATUS, and the eight codes of ERR. -/
def Obligations.StatusFields : Prop :=
  (∀ s : State,
    (statusWord s).extractLsb' 0 1 = BitVec.ofBool s.busy
      ∧ (statusWord s).extractLsb' 1 1 = BitVec.ofBool s.init
      ∧ (statusWord s).extractLsb' 2 1 = BitVec.ofBool s.asleep
      ∧ (statusWord s).extractLsb' 3 1 = BitVec.ofBool s.valid
      ∧ (statusWord s).extractLsb' 4 1 = BitVec.ofBool s.ovr
      ∧ (statusWord s).extractLsb' 5 3 = s.err.code
      ∧ (statusWord s).extractLsb' 8 2 = s.sel
      ∧ (statusWord s).extractLsb' 10 22 = 0)
    ∧ Status.ok.code = 0 ∧ Status.configError.code = 1 ∧ Status.notInitialized.code = 2 ∧ Status.notReady.code = 3
    ∧ Status.ioError.code = 4 ∧ Status.invalidArgument.code = 5 ∧ Status.asleep.code = 6 ∧ Status.illegal.code = 7

/-- 20_memory.md R45: a host read returns the register's value and changes no state of the block, of the lines or of
the sensor: only the program and its trace move on. By its index (10_state.md R32, 20_memory.md R44), register 0 is
CMD, 1 ARG, 2 STATUS and 3 RESULT. -/
def Obligations.HostReadHasNoSideEffect : Prop :=
  (∀ (s : State) (r : Reg) (ts : List Turn) (ops : List HostOp),
    s.cfg.legal = true → s.turns = .host :: ts → s.host = .rd r :: ops →
    ∃ v : Word,
      step s = .next { s with turns := ts, host := ops, trace := s.trace ++ [v] }
        ∧ v = (match r with | .cmd => 0 | .arg => s.arg | .status => statusWord s | .result => s.result))
    ∧ ∀ s : State, memRead 0 s = 0 ∧ memRead 1 s = s.arg ∧ memRead 2 s = statusWord s ∧ memRead 3 s = s.result

/-- 20_memory.md R47, R48: a host write to ARG stores the value, whatever BUSY is; one to STATUS or RESULT changes
nothing; and nothing but a host write of ARG (10_state.md R34) or a reset changes ARG. By its index (R44), a write to
register 0 presents a command word, and one to 1 stores ARG. -/
def Obligations.HostWritesOfOtherRegisters : Prop :=
  (∀ (s : State) (v : Word) (ts : List Turn) (ops : List HostOp),
    s.cfg.legal = true → s.turns = .host :: ts →
    (s.host = .wr .arg v :: ops → step s = .next { s with turns := ts, host := ops, arg := v })
      ∧ (s.host = .wr .status v :: ops → step s = .next { s with turns := ts, host := ops })
      ∧ (s.host = .wr .result v :: ops → step s = .next { s with turns := ts, host := ops }))
    ∧ (∀ s t : State,
      step s = .next t → t.arg ≠ s.arg →
      ((nextMove s).1 = .host ∧ ∃ ops, skipIdle s.host = .wr .arg t.arg :: ops)
        ∨ ((nextMove s).1 = .reset ∧ t.arg = 0))
    ∧ ∀ (s : State) (v : Word),
      memWrite 0 v s = exec (decode v) s ∧ memWrite 1 v s = .next { s with arg := v } ∧ memWrite 2 v s = .next s
        ∧ memWrite 3 v s = .next s

/-- 30_encoding.md R81, R83: `sync` leaves the trace alone while BUSY = 1, and appends the STATUS that ends it; that
it is one operation, and not R83's loop of `rd STATUS`, is the model's choice (log entry 14). The other
pseudo-instructions stand for their expansions. `idle n` lets n ticks pass, in which the host makes no access (log
entry 18). -/
def Obligations.SyncWaitsForCompletion : Prop :=
  (∀ (s : State) (ts : List Turn) (ops : List HostOp),
    s.cfg.legal = true → s.turns = .host :: ts → s.host = .sync :: ops →
    step s = .next (if s.busy then { s with turns := ts }
      else { s with turns := ts, host := ops, trace := s.trace ++ [statusWord s] }))
    ∧ (∀ ms : Word, waitrdyMs ms = [.wr .arg ms, .wr .cmd 0x00000002])
    ∧ (∀ x : List HostOp, doOps x = x ++ [.sync])
    ∧ sampleOps = [.wr .cmd 0x00000003, .sync, .rd .result]
    ∧ (∀ (s : State) (n k : Nat) (ops : List HostOp),
      s.host = .idle n :: ops → k < n →
      (nextMove (timeStep^[k] s)).1 ≠ .host ∧ (timeStep^[n] s).host = ops)
    ∧ ∀ (s : State) (op : HostOp) (ops : List HostOp) (ts : List Turn),
      (∀ m, op ≠ .idle m) → s.host = .idle 0 :: op :: ops → s.turns = .host :: ts → (nextMove s).1 = .host

/-! ## What the write of a command word does -/

/-- 20_memory.md R46, 60_exceptions.md R122: a CMD write while a command runs is dropped and sets OVR, whatever the
word; nothing else changes. -/
def Obligations.WordDroppedWhileBusy : Prop :=
  ∀ (s : State) (i : Instr), s.busy = true → exec i s = .next { s with ovr := true }

/-- 40_init.md R85, 60_exceptions.md R119, R120: an INIT is accepted when the engine is idle and not initialised, and
its sequencer starts; nothing else changes. -/
def Obligations.InitIsAccepted : Prop :=
  ∀ (s : State) (sel : Sel),
    s.busy = false → s.init = false →
    exec (.init sel) s = .next { s with
      busy := true, err := .ok, ovr := false, op := .init, opnd := sel, pp := .iCfgSck }

/-- 40_init.md R87 (d): an INIT while the engine is initialised completes at once with ILLEGAL; nothing else
changes. -/
def Obligations.SecondInitIsIllegal : Prop :=
  ∀ (s : State) (sel : Sel),
    s.busy = false → s.init = true →
    exec (.init sel) s = .next { s with err := .illegal, ovr := false, busy := false, op := .none, pp := .idle }

/-- 41_acquire.md R90: WAIT_READY captures ARG × 1000 and now, and starts sampling; nothing else changes. -/
def Obligations.WaitReadyIsAccepted : Prop :=
  ∀ s : State,
    s.busy = false → s.init = true → s.asleep = false →
    ∃ t, exec .waitReady s = .next t
      ∧ t = { s with
          busy := true, err := .ok, ovr := false, op := .waitReady, pp := .wSample, tmo := t.tmo, t0 := s.now }
      ∧ t.tmo.toNat = s.arg.toNat * 1000

/-- 41_acquire.md R92: READ captures T_READ_TIMEOUT_MS × 1000 and now, and starts its ready wait; nothing else
changes. -/
def Obligations.ReadIsAccepted : Prop :=
  ∀ s : State,
    s.cfg.legal = true → s.busy = false → s.init = true → s.asleep = false →
    ∃ t, exec .read s = .next t
      ∧ t = { s with
          busy := true, err := .ok, ovr := false, op := .read, pp := .rwSample, tmo := t.tmo, t0 := s.now }
      ∧ t.tmo.toNat = s.cfg.tReadTimeoutMs * 1000

/-- 42_power.md R104, R106: SLEEP and WAKE are accepted whatever ASLEEP is, and their sequencers start; nothing else
changes. -/
def Obligations.PowerCommandsAreAccepted : Prop :=
  ∀ s : State,
    s.busy = false → s.init = true →
    exec .sleep s = .next { s with busy := true, err := .ok, ovr := false, op := .sleep, pp := .sSet }
      ∧ exec .wake s = .next { s with busy := true, err := .ok, ovr := false, op := .wake, pp := .kSet }

/-- 43_gain_select.md R110: SET_GAIN stores its operand and completes in the step of its write, whatever ASLEEP is;
nothing else changes. -/
def Obligations.SetGainCompletes : Prop :=
  ∀ (s : State) (sel : Sel),
    s.busy = false → s.init = true →
    exec (.setGain sel) s = .next { s with
      sel := sel, err := .ok, ovr := false, busy := false, op := .none, pp := .idle }

/-- 60_exceptions.md R119 (check 4), R121: before initialisation every command but INIT completes at once with
NOT_INITIALIZED; a READ also clears VALID; nothing else changes. -/
def Obligations.NotInitializedRejection : Prop :=
  ∀ (s : State) (sel : Sel),
    s.busy = false → s.init = false →
    (∀ i ∈ [Instr.waitReady, .sleep, .wake, .setGain sel],
        exec i s = .next { s with err := .notInitialized, ovr := false, busy := false, op := .none, pp := .idle })
      ∧ exec .read s = .next { s with
          err := .notInitialized, ovr := false, busy := false, op := .none, pp := .idle, valid := false }

/-- 60_exceptions.md R119 (check 5), 42_power.md R105 (e): asleep, READ and WAIT_READY complete at once with ASLEEP; a
READ also clears VALID; nothing else changes. -/
def Obligations.AsleepRejection : Prop :=
  ∀ s : State,
    s.busy = false → s.init = true → s.asleep = true →
    exec .waitReady s = .next { s with err := .asleep, ovr := false, busy := false, op := .none, pp := .idle }
      ∧ exec .read s = .next { s with
          err := .asleep, ovr := false, busy := false, op := .none, pp := .idle, valid := false }

/-- 30_encoding.md R77, R78, 60_exceptions.md R121: an illegal word and a word that names no selector complete at once,
with ILLEGAL and INVALID_ARGUMENT, in every idle state; nothing else changes. -/
def Obligations.BadWordsCompleteAtOnce : Prop :=
  ∀ (s : State) (w : Word),
    s.busy = false →
    exec (.illegal w) s = .next { s with err := .illegal, ovr := false, busy := false, op := .none, pp := .idle }
      ∧ (∀ i ∈ [Instr.invalidInit, .invalidSetGain],
          exec i s = .next { s with
            err := .invalidArgument, ovr := false, busy := false, op := .none, pp := .idle })

/-- 60_exceptions.md R119: the acceptance checks in their order. The first that fails decides the status, and the
command completes at once with no line operation; a command that passes them all starts at its first program point,
and a SET_GAIN completes. -/
def Obligations.AcceptanceChecksInOrder : Prop :=
  ∀ (s : State) (w : Word),
    s.busy = false →
    ∃ t, exec (decode w) s = .next t ∧
      let rejected (st : Status) := t = { s with
        err := st, ovr := false, busy := false, op := .none, pp := .idle
        valid := if decode w = .read then false else s.valid }
      let started (op : Op) (p : Point) := t.busy = true ∧ t.err = .ok ∧ t.ovr = false ∧ t.op = op ∧ t.pp = p
      match decode w with
      | .illegal _ => rejected .illegal
      | .invalidInit => rejected .invalidArgument
      | .invalidSetGain => rejected .invalidArgument
      | .init _ => if s.init then rejected .illegal else started .init .iCfgSck
      | .waitReady =>
        if s.init = false then rejected .notInitialized
        else if s.asleep then rejected .asleep else started .waitReady .wSample
      | .read =>
        if s.init = false then rejected .notInitialized
        else if s.asleep then rejected .asleep else started .read .rwSample
      | .sleep => if s.init = false then rejected .notInitialized else started .sleep .sSet
      | .wake => if s.init = false then rejected .notInitialized else started .wake .kSet
      | .setGain sel =>
        if s.init = false then rejected .notInitialized
        else t.sel = sel ∧ t.busy = false ∧ t.err = .ok ∧ t.ovr = false

/-! ## Whole-machine rules: who writes what -/

/-- 10_state.md R22: s.init goes to 1 when an INIT succeeds, at its commit, and only then; only reset sets it back to
0. -/
def Obligations.OnlyInitAndResetWriteInit : Prop :=
  (∀ s t : State,
    step s = .next t → t.init ≠ s.init →
    ((∃ e, (nextMove s).1 = .engine e) ∧ s.pp = .iCommit ∧ t.init = true)
      ∨ ((nextMove s).1 = .reset ∧ t.init = false))
    ∧ (∀ s t : State,
      step s = .next t → (∃ e, (nextMove s).1 = .engine e) → s.pp = .iCommit →
      t.init = true ∧ t.err = .ok ∧ t.busy = false)

/-- 10_state.md R23: s.sel is written only by INIT's commit and by an accepted SET_GAIN (and by reset). -/
def Obligations.OnlyInitAndSetGainWriteSel : Prop :=
  ∀ s t : State,
    step s = .next t → t.sel ≠ s.sel →
    ((∃ e, (nextMove s).1 = .engine e) ∧ s.pp = .iCommit ∧ t.sel = s.opnd)
      ∨ ((nextMove s).1 = .host ∧ s.busy = false ∧ s.init = true
        ∧ ∃ w ops, skipIdle s.host = .wr .cmd w :: ops ∧ decode w = .setGain t.sel)
      ∨ ((nextMove s).1 = .reset ∧ t.sel = 0)

/-- 10_state.md R24: s.asleep goes to 1 only when a SLEEP completes with OK, and to 0 only when a WAKE or an INIT does
(or by reset). -/
def Obligations.OnlyPowerCommandsWriteAsleep : Prop :=
  ∀ s t : State,
    step s = .next t → t.asleep ≠ s.asleep →
    ((∃ e, (nextMove s).1 = .engine e) ∧ t.busy = false ∧ t.err = .ok
        ∧ ((s.pp = .sCommit ∧ t.asleep = true) ∨ ((s.pp = .kCommit ∨ s.pp = .iCommit) ∧ t.asleep = false)))
      ∨ ((nextMove s).1 = .reset ∧ t.asleep = false)

/-- 10_state.md R25, 41_acquire.md R103: RESULT changes only when a READ completes with OK, and then VALID is 1 (or by
reset). -/
def Obligations.OnlySuccessfulReadWritesResult : Prop :=
  ∀ s t : State,
    step s = .next t → t.result ≠ s.result →
    ((∃ e, (nextMove s).1 = .engine e) ∧ s.pp = .rCommit ∧ t.result = sext32 s.acc ∧ t.valid = true ∧ t.err = .ok
        ∧ t.busy = false)
      ∨ ((nextMove s).1 = .reset ∧ t.result = 0)

/-- 10_state.md R25, 60_exceptions.md R121: VALID goes to 1 only with a successful READ, and to 0 only when a READ
fails or is rejected (or by reset). -/
def Obligations.OnlyReadWritesValid : Prop :=
  ∀ s t : State,
    step s = .next t → t.valid ≠ s.valid →
    ((∃ e, (nextMove s).1 = .engine e) ∧ s.pp = .rCommit ∧ t.valid = true ∧ t.err = .ok)
      ∨ ((∃ e, (nextMove s).1 = .engine e) ∧ s.op = .read ∧ t.busy = false ∧ t.err ≠ .ok ∧ t.valid = false)
      ∨ ((nextMove s).1 = .host ∧ s.busy = false ∧ t.valid = false ∧ (t.err = .notInitialized ∨ t.err = .asleep)
        ∧ ∃ w ops, skipIdle s.host = .wr .cmd w :: ops ∧ decode w = .read)
      ∨ ((nextMove s).1 = .reset ∧ t.valid = false)

/-- 60_exceptions.md R122: OVR is set by a CMD write that is dropped because a command runs, which is not decoded and
changes nothing else; the next accepted one clears it; and nothing else writes it (but reset). -/
def Obligations.OnlyCmdWritesWriteOvr : Prop :=
  (∀ s t : State,
    step s = .next t → t.ovr ≠ s.ovr →
    ((nextMove s).1 = .host ∧ (∃ w ops, skipIdle s.host = .wr .cmd w :: ops) ∧ t.ovr = s.busy)
      ∨ ((nextMove s).1 = .reset ∧ t.ovr = false))
    ∧ ∀ (s : State) (i : Instr),
      (s.busy = true → exec i s = .next { s with ovr := true })
        ∧ (s.busy = false → ∃ t, exec i s = .next t ∧ t.ovr = false)

/-- 60_exceptions.md R123: a command that ends with a nonzero status leaves INIT, SEL, ASLEEP and RESULT as they were,
and VALID too, except that a READ clears it. -/
def Obligations.FailedCommandLeavesBlockState : Prop :=
  ∀ s t : State,
    step s = .next t → s.busy = true → (nextMove s).1 ≠ .reset → t.busy = false → t.err ≠ .ok →
    t.init = s.init ∧ t.sel = s.sel ∧ t.asleep = s.asleep ∧ t.result = s.result
      ∧ (s.op ≠ .read → t.valid = s.valid) ∧ (s.op = .read → t.valid = false)

/-- 20_memory.md R42, 92_eei_decisions.md D37: only the engine changes the SCK level or configures a line, and before
initialisation only INIT does. A reset leaves both lines not configured (D22) and the SCK level as it was
(70_reset_and_hazards.md R137). That an SCK level the spec leaves open, before INIT or after a failed PinSet, stays one
free value is the model's choice (log entry 24). -/
def Obligations.OnlyEngineTouchesLines : Prop :=
  ∀ s t : State,
    s.Inv → step s = .next t → t.sck ≠ s.sck ∨ t.sckMode ≠ s.sckMode ∨ t.doutMode ≠ s.doutMode →
    ((∃ e, (nextMove s).1 = .engine e) ∧ s.busy = true ∧ (s.init = false → s.op = .init))
      ∨ ((nextMove s).1 = .reset ∧ t.sck = s.sck ∧ t.sckMode = .unconfigured ∧ t.doutMode = .unconfigured)

/-- 20_memory.md R55: with PIN_FALLIBLE = false no step ends a command with IO_ERROR or CONFIG_ERROR. -/
def Obligations.InfalliblePinsRaiseNoLineError : Prop :=
  ∀ s t : State,
    step s = .next t → s.cfg.pinFallible = false → t.err = .ioError ∨ t.err = .configError → t.err = s.err

/-- 10_state.md R34, 20_memory.md R47: while a command runs, ARG has no influence on it: two states that differ in ARG
alone step to states that differ in ARG and in the host's read trace alone. -/
def Obligations.ArgDoesNotAffectRunningCommand : Prop :=
  ∀ (s t : State) (v : Word),
    s.busy = true → step s = .next t →
    ∃ a tr, step { s with arg := v } = .next { t with arg := a, trace := tr }

/-- 00_scope.md R7, 20_memory.md section 6: the engine depends on the sensor only through DOUT: two states that differ
in the sensor's own state alone step to states that differ in that alone. 20_memory.md R60: DOUT is what the sensor
drives it to, and 1, by its pull-up, when it is configured and not driven. And R59 (c): a sensor's move changes what
it drives DOUT to and its own state alone, and one that it releases floats at a free level. The rest is the model's
choice: that no other move changes what drives DOUT (log entry 16); and, of the last clause, that a DOUT neither driven
nor configured keeps its level until the sensor's next move, where the spec admits any value (log entry 24), and that a
reset keeps the level where no command runs too (log entry 12: R137 says so of a reset while one runs). -/
def Obligations.EngineSeesSensorOnlyThroughDout : Prop :=
  (∀ (s t : State) (x : Sensor),
    step s = .next t → ∃ y, step { s with sensor := x } = .next { t with sensor := y })
    ∧ (∀ (s : State) (e : SensorEvent) (ts : List Turn),
      s.cfg.legal = true → s.turns = .sensor e :: ts →
      ∃ x, step s = .next { s with
        turns := ts, sensor := x
        doutDrive := (match e with | .drive l => some l | .release => none | .convert _ => some 0)
        doutFloat := (if e = .release then Config.freeLevel s.stream s.draws else s.doutFloat)
        draws := (if e = .release then s.draws + 1 else s.draws) })
    ∧ (∀ s : State,
      (∀ l, s.doutDrive = some l → s.dout = l)
        ∧ (s.doutDrive = none → s.doutMode = .inputPullup → s.dout = 1))
    ∧ (∀ s t : State, step s = .next t → t.doutDrive ≠ s.doutDrive → ∃ e, (nextMove s).1 = .sensor e)
    ∧ ∀ s t : State,
      step s = .next t → t.dout ≠ s.dout →
      (∃ e, (nextMove s).1 = .sensor e)
        ∨ ((∃ e, (nextMove s).1 = .engine e) ∧ s.pp = .iCfgDout ∧ t.doutMode = .inputPullup)

/-- 60_exceptions.md R131: instances share no state: a step of one leaves the others as they were. -/
def Obligations.InstancesShareNoState : Prop :=
  ∀ (x y : Instances) (k j : Nat),
    Instances.stepAt k x = .next y → j ≠ k →
    y.engines[j]? = x.engines[j]? ∧ y.engines.length = x.engines.length

/-! ## Reset -/

/-- 70_reset_and_hazards.md R134: the values of the block's state after reset. -/
def Obligations.ResetValues : Prop :=
  ∀ s : State, ∀ t ∈ [State.reset, resetBlock s],
    t.init = false ∧ t.sel = 0 ∧ t.asleep = false ∧ t.busy = false ∧ t.err = .ok ∧ t.valid = false ∧ t.ovr = false
      ∧ t.result = 0 ∧ t.arg = 0 ∧ t.acc = 0 ∧ t.bit = 0 ∧ t.trail = 0 ∧ t.op = .none ∧ t.pp = .idle ∧ t.t0 = 0
      ∧ t.tmo = 0 ∧ t.due = 0 ∧ t.now = t.cfg.now0 ∧ statusWord t = 0

/-- 70_reset_and_hazards.md R134, R136, R137, 92_eei_decisions.md D22: a reset ends a running command at once, gives the
block's state its reset values, and leaves the line levels as they were and the lines not configured; the sensor's state
is then unknown. That it is a turn, and keeps the levels where no command runs too, is the model's choice (log entry
12). -/
def Obligations.ResetLeavesLines : Prop :=
  ∀ (s : State) (ts : List Turn),
    s.cfg.legal = true → s.turns = .reset :: ts →
    ∃ t, step s = .next t
      ∧ t.init = false ∧ t.sel = 0 ∧ t.asleep = false ∧ t.busy = false ∧ t.err = .ok ∧ t.valid = false ∧ t.ovr = false
      ∧ t.result = 0 ∧ t.arg = 0 ∧ t.acc = 0 ∧ t.bit = 0 ∧ t.trail = 0 ∧ t.op = .none ∧ t.pp = .idle ∧ t.t0 = 0
      ∧ t.tmo = 0 ∧ t.due = 0 ∧ t.now = s.cfg.now0 ∧ statusWord t = 0
      ∧ t.sck = s.sck ∧ t.dout = s.dout ∧ t.sckMode = .unconfigured ∧ t.doutMode = .unconfigured
      ∧ t.sensor.known = false ∧ t.cfg = s.cfg

/-! ## The data path -/

/-- 41_acquire.md R95: sign extension, and RESULT after a READ's commit. -/
def Obligations.SignExtension : Prop :=
  (∀ (s : State) (e : Bool), s.pp = .rCommit → (engineEvent e s).result = sext32 s.acc)
    ∧ ∀ c : Code,
      sext32 c = (if c.getLsbD 23 then 0xFF000000#32 ||| c.setWidth 32 else c.setWidth 32)
        ∧ (sext32 c).toInt = (c.toNat : Int) - (if c.getLsbD 23 then 2 ^ 24 else 0)

/-- 41_acquire.md R93: after 24 shifts the accumulator is the sum of b_k × 2^(24 − k). -/
def Obligations.TwentyFourShiftsFormTheCode : Prop :=
  ∀ b : List Level,
    b.length = 24 →
    (b.foldl shiftIn 0).toNat = ((List.range 24).map fun k => (b.getD k 0).toNat * 2 ^ (23 - k)).sum

/-! ## Commands run to completion -/

/-- 40_init.md R85, R86, R88, 20_memory.md R60, 70_reset_and_hazards.md R136: an INIT whose pin operations return ok completes T_SETTLE_MS × 1000
ticks after its acceptance, with INIT = 1, its selector active and the lines configured; it makes the two
configurations and no other line operation. The moves in between are the block's own, so the sensor drives DOUT as it
did (log entry 16: only the sensor's moves change that), and a DOUT that it does not drive is 1. The sensor's state is
then known, and the sensor is settled (R138) and converts next with SENSOR_SEL_AFTER_POWERUP (43_gain_select.md R114;
log entry 10), unless it waits for the recovery of R144 (log entry 13). -/
def Obligations.InitRunsToCompletion : Prop :=
  ∀ (s : State) (sel : Sel) (ts : List Turn),
    s.cfg.legal = true → s.busy = false → s.init = false →
    s.turns = quiet (settleTicks s.cfg + 4) ++ ts →
    (∀ u, exec (.init sel) s = .next u → lineTrace (settleTicks s.cfg + 4) u = [.cfgSck, .cfgDout])
    ∧ ∃ t, runCommand (.init sel) (settleTicks s.cfg + 4) s = .next t
      ∧ t.init = true ∧ t.sel = sel ∧ t.asleep = false ∧ t.busy = false ∧ t.err = .ok ∧ t.ovr = false
      ∧ t.valid = s.valid ∧ t.result = s.result ∧ t.arg = s.arg ∧ t.op = .none ∧ t.pp = .idle
      ∧ t.now = s.now + ticks (settleTicks s.cfg)
      ∧ t.sck = 0 ∧ t.sckMode = .output ∧ t.doutMode = .inputPullup
      ∧ t.dout = (match s.doutDrive with | some l => l | none => 1) ∧ t.turns = ts
      ∧ (SensorInv s → s.sensor.view ≠ .untilRecovery →
        t.sensor.known = true ∧ t.sensor.lowPower = false ∧ t.sensor.settle = 0
          ∧ t.sensor.nextSel = s.cfg.selAfterPowerup)

/-- 40_init.md R87: an INIT that fails ends at its acceptance tick with CONFIG_ERROR. When PinCfg(SCK) fails DOUT is
not configured; when PinCfg(DOUT) fails SCK stays configured low. That the line whose own PinCfg fails keeps its
configuration is the model's choice (log entry 11). -/
def Obligations.FailedInit : Prop :=
  ∀ (s : State) (sel : Sel) (ts : List Turn),
    s.cfg.legal = true → s.cfg.pinFallible = true → s.busy = false → s.init = false →
    (s.turns = .block true :: ts →
        ∃ t, runCommand (.init sel) 1 s = .next t ∧ t.err = .configError ∧ t.busy = false ∧ t.now = s.now
          ∧ t.init = false ∧ t.sel = s.sel ∧ t.asleep = s.asleep ∧ t.sckMode = s.sckMode
          ∧ t.doutMode = s.doutMode)
      ∧ (s.turns = .block false :: .block true :: ts →
        ∃ t, runCommand (.init sel) 2 s = .next t ∧ t.err = .configError ∧ t.busy = false ∧ t.now = s.now
          ∧ t.init = false ∧ t.sel = s.sel ∧ t.asleep = s.asleep ∧ t.sckMode = .output ∧ t.sck = 0
          ∧ t.doutMode = s.doutMode)

/-- 42_power.md R104, R105, R108: a SLEEP whose PinSet returns ok completes T_SLEEP_US ticks after its acceptance with
ASLEEP = 1; the PinSet is its only line operation; SCK stays high, and the sensor is in low-power mode. The moves in
between are the block's own. -/
def Obligations.SleepRunsToCompletion : Prop :=
  ∀ (s : State) (ts : List Turn),
    s.cfg.legal = true → s.busy = false → s.init = true →
    s.turns = quiet (s.cfg.tSleepUs + 3) ++ ts →
    (∀ u, exec .sleep s = .next u → lineTrace (s.cfg.tSleepUs + 3) u = [.set 1])
    ∧ ∃ t, runCommand .sleep (s.cfg.tSleepUs + 3) s = .next t
      ∧ t.asleep = true ∧ t.busy = false ∧ t.err = .ok ∧ t.ovr = false ∧ t.init = true ∧ t.sel = s.sel
      ∧ t.valid = s.valid ∧ t.result = s.result ∧ t.arg = s.arg ∧ t.op = .none ∧ t.pp = .idle
      ∧ t.now = s.now + ticks s.cfg.tSleepUs ∧ t.sck = 1 ∧ t.sensor.lowPower = true ∧ t.turns = ts

/-- 42_power.md R106, R107, R108: a WAKE whose PinSet returns ok completes T_SETTLE_MS × 1000 ticks after its
acceptance with ASLEEP = 0 and SCK low; the PinSet is its only line operation. The sensor, if its state was known, is
out of low-power mode and has settled, and its next conversion is one with SENSOR_SEL_AFTER_POWERUP (log entry 10);
the same holds, and its state is known again, if it was in low-power mode under a high SCK (70_reset_and_hazards.md
R144; log entry 13). The moves in between are the block's own. -/
def Obligations.WakeRunsToCompletion : Prop :=
  ∀ (s : State) (ts : List Turn),
    s.cfg.legal = true → s.busy = false → s.init = true →
    s.turns = quiet (settleTicks s.cfg + 3) ++ ts →
    (∀ u, exec .wake s = .next u → lineTrace (settleTicks s.cfg + 3) u = [.set 0])
    ∧ ∃ t, runCommand .wake (settleTicks s.cfg + 3) s = .next t
      ∧ t.asleep = false ∧ t.busy = false ∧ t.err = .ok ∧ t.ovr = false ∧ t.init = true ∧ t.sel = s.sel
      ∧ t.valid = s.valid ∧ t.result = s.result ∧ t.arg = s.arg ∧ t.op = .none ∧ t.pp = .idle
      ∧ t.now = s.now + ticks (settleTicks s.cfg) ∧ t.sck = 0 ∧ t.turns = ts
      ∧ ((s.Inv ∧ SensorInv s ∧ s.sensor.known = true) ∨ (s.sck = 1 ∧ s.sensor.lowPower = true) →
        t.sensor.known = true ∧ t.sensor.lowPower = false ∧ t.sensor.settle = 0
          ∧ t.sensor.nextSel = s.cfg.selAfterPowerup)

/-- 41_acquire.md R90, R91. On the schedule `readyAt`, of the block's own moves and two changes of DOUT, a WAIT_READY
finds DOUT = 1 before sample j and 0 at it, and completes with OK at tick j × P, after j + 1 samples and no other line
operation. And every WAIT_READY that completes with OK, whatever host accesses and sensor changes come in between, has
sampled 1 j times and then 0, for some j, and completes at tick j × P. -/
def Obligations.WaitReadyEndsAtReadySample : Prop :=
  (∀ (s : State) (j : Nat) (ts : List Turn),
    s.cfg.legal = true → s.busy = false → s.init = true → s.asleep = false →
    j * s.cfg.tPollUs < s.arg.toNat * 1000 + s.cfg.tPollUs →
    s.turns = readyAt s.cfg j ++ quiet 1 ++ ts →
    (∀ u, exec .waitReady s = .next u →
      lineTrace (j * (s.cfg.tPollUs + 2) + 3) u = List.replicate (j + 1) .get)
    ∧ ∃ t, runCommand .waitReady (j * (s.cfg.tPollUs + 2) + 3) s = .next t
      ∧ t.err = .ok ∧ t.busy = false ∧ t.ovr = false ∧ t.now = s.now + ticks (j * s.cfg.tPollUs)
      ∧ t.init = true ∧ t.asleep = false ∧ t.sel = s.sel ∧ t.valid = s.valid ∧ t.result = s.result
      ∧ t.arg = s.arg ∧ t.sck = s.sck ∧ t.op = .none ∧ t.pp = .idle ∧ t.turns = ts)
    ∧ ∀ (s u t : State) (n : Nat),
      s.cfg.legal = true → s.busy = false → s.init = true → s.asleep = false → exec .waitReady s = .next u →
      commandRun n u t → t.busy = false → t.err = .ok →
      ∃ j, samples n u = List.replicate j 1 ++ [0] ∧ lineTrace n u = List.replicate (j + 1) .get
        ∧ j * s.cfg.tPollUs < s.arg.toNat * 1000 + s.cfg.tPollUs ∧ t.now = s.now + ticks (j * s.cfg.tPollUs)

/-- 41_acquire.md R91, 20_memory.md R60, for tmo = ARG × 1000. On the schedule `neverReady`, of the block's own moves
with DOUT at 1, driven high or not driven at all (a disconnected sensor), a WAIT_READY completes with NOT_READY at
tick ⌈tmo / P⌉ × P, after ⌈tmo / P⌉ + 1 samples and no other line operation. And every WAIT_READY that completes with
NOT_READY, whatever host accesses and sensor changes come in between, has made that many samples, all 1, and completes
at that tick. -/
def Obligations.WaitReadyTimesOut : Prop :=
  (∀ (s : State) (e : SensorEvent) (ts : List Turn),
    s.cfg.legal = true → s.busy = false → s.init = true → s.asleep = false → holdsHigh e s →
    s.turns = neverReady s.cfg e (s.arg.toNat * 1000) ++ ts →
    (∀ u, exec .waitReady s = .next u →
        lineTrace (neverReady s.cfg e (s.arg.toNat * 1000)).length u
          = List.replicate (pollTicks s.cfg (s.arg.toNat * 1000) / s.cfg.tPollUs + 1) .get)
    ∧ ∃ t, runCommand .waitReady (neverReady s.cfg e (s.arg.toNat * 1000)).length s = .next t
      ∧ t.err = .notReady ∧ t.busy = false ∧ t.ovr = false
      ∧ t.now = s.now + ticks (pollTicks s.cfg (s.arg.toNat * 1000))
      ∧ t.init = true ∧ t.asleep = false ∧ t.sel = s.sel ∧ t.valid = s.valid ∧ t.result = s.result
      ∧ t.arg = s.arg ∧ t.sck = s.sck ∧ t.op = .none ∧ t.pp = .idle ∧ t.turns = ts)
    ∧ ∀ (s u t : State) (n : Nat),
      s.cfg.legal = true → s.busy = false → s.init = true → s.asleep = false → exec .waitReady s = .next u →
      commandRun n u t → t.busy = false → t.err = .notReady →
      samples n u = List.replicate (pollTicks s.cfg (s.arg.toNat * 1000) / s.cfg.tPollUs + 1) 1
        ∧ lineTrace n u = List.replicate (pollTicks s.cfg (s.arg.toNat * 1000) / s.cfg.tPollUs + 1) .get
        ∧ t.now = s.now + ticks (pollTicks s.cfg (s.arg.toNat * 1000))

/-- 41_acquire.md R91, R96, 20_memory.md R60, for tmo = T_READ_TIMEOUT_MS × 1000. On the schedule `neverReady`, of the
block's own moves with DOUT at 1, driven high or not driven at all (a disconnected sensor), a READ completes with
NOT_READY at tick ⌈tmo / P⌉ × P, after ⌈tmo / P⌉ + 1 samples; no pulse is emitted, VALID is 0 and RESULT is unchanged.
And every READ that completes with NOT_READY, whatever host accesses and sensor changes come in between, has made that
many samples, all 1, and no pulse, and completes at that tick. -/
def Obligations.ReadTimesOut : Prop :=
  (∀ (s : State) (e : SensorEvent) (ts : List Turn),
    s.cfg.legal = true → s.busy = false → s.init = true → s.asleep = false → holdsHigh e s →
    s.turns = neverReady s.cfg e (msTicks s.cfg.tReadTimeoutMs) ++ ts →
    (∀ u, exec .read s = .next u →
        lineTrace (neverReady s.cfg e (msTicks s.cfg.tReadTimeoutMs)).length u
          = List.replicate (pollTicks s.cfg (msTicks s.cfg.tReadTimeoutMs) / s.cfg.tPollUs + 1) .get)
    ∧ ∃ t, runCommand .read (neverReady s.cfg e (msTicks s.cfg.tReadTimeoutMs)).length s = .next t
      ∧ t.err = .notReady ∧ t.busy = false ∧ t.ovr = false
      ∧ t.now = s.now + ticks (pollTicks s.cfg (msTicks s.cfg.tReadTimeoutMs))
      ∧ t.init = true ∧ t.asleep = false ∧ t.sel = s.sel ∧ t.valid = false ∧ t.result = s.result
      ∧ t.arg = s.arg ∧ t.sck = s.sck ∧ t.op = .none ∧ t.pp = .idle ∧ t.turns = ts)
    ∧ ∀ (s u t : State) (n : Nat),
      s.cfg.legal = true → s.busy = false → s.init = true → s.asleep = false → exec .read s = .next u →
      commandRun n u t → t.busy = false → t.err = .notReady →
      samples n u = List.replicate (pollTicks s.cfg (msTicks s.cfg.tReadTimeoutMs) / s.cfg.tPollUs + 1) 1
        ∧ lineTrace n u = List.replicate (pollTicks s.cfg (msTicks s.cfg.tReadTimeoutMs) / s.cfg.tPollUs + 1) .get
        ∧ t.valid = false ∧ t.result = s.result
        ∧ t.now = s.now + ticks (pollTicks s.cfg (msTicks s.cfg.tReadTimeoutMs))

/-- 41_acquire.md R92 to R95, R97: on the schedule `readTurns`, of the block's own moves and changes of DOUT, a READ
finds DOUT = 0 at sample j and samples the 24 bits of `code`, most significant first; it completes with OK at tick j ×
P + (sel + 25) × (H + L), with RESULT = sext_32(code). -/
def Obligations.ReadReturnsTheCode : Prop :=
  ∀ (s : State) (j : Nat) (code : Code) (ts : List Turn),
    s.cfg.legal = true → s.busy = false → s.init = true → s.asleep = false → s.sel ≠ 3 →
    j * s.cfg.tPollUs < msTicks s.cfg.tReadTimeoutMs + s.cfg.tPollUs →
    s.turns = readTurns s.cfg s.sel j code ++ ts →
    ∃ t, runCommand .read (readTurns s.cfg s.sel j code).length s = .next t
      ∧ t.result = sext32 code ∧ t.valid = true ∧ t.err = .ok ∧ t.busy = false ∧ t.ovr = false
      ∧ t.now = s.now + ticks (j * s.cfg.tPollUs + totalPulses s.sel * pulseTicks s.cfg)
      ∧ t.init = true ∧ t.asleep = false ∧ t.sel = s.sel ∧ t.arg = s.arg ∧ t.sck = 0 ∧ t.op = .none
      ∧ t.pp = .idle ∧ t.turns = ts

/-- 41_acquire.md R93 to R95, R97, R98. The line operations of a READ on the schedule `readTurns`: j + 1 samples, then
24 data pulses, each sampled once between its edges, then sel + 1 trailing pulses without a sample. And every READ
that completes with OK, whatever host accesses and sensor changes come in between, has for some j sampled 1 j times,
then 0, then 24 bits; its line operations are these; RESULT is sext_32 of the bits shifted in in order; and it
completes at tick j × P + (sel + 25) × (H + L). -/
def Obligations.ReadLineTrace : Prop :=
  (∀ (s u : State) (j : Nat) (code : Code) (ts : List Turn),
    s.cfg.legal = true → s.busy = false → s.init = true → s.asleep = false → s.sel ≠ 3 →
    j * s.cfg.tPollUs < msTicks s.cfg.tReadTimeoutMs + s.cfg.tPollUs →
    s.turns = readTurns s.cfg s.sel j code ++ ts → exec .read s = .next u →
    lineTrace (readTurns s.cfg s.sel j code).length u
      = List.replicate (j + 1) .get ++ (List.replicate 24 [LineOp.set 1, .get, .set 0]).flatten
        ++ (List.replicate (trailingPulses s.sel) [LineOp.set 1, .set 0]).flatten)
    ∧ ∀ (s u t : State) (n : Nat),
      s.cfg.legal = true → s.busy = false → s.init = true → s.asleep = false → s.sel ≠ 3 → exec .read s = .next u →
      commandRun n u t → t.busy = false → t.err = .ok →
      ∃ (j : Nat) (bits : List Level),
        bits.length = 24 ∧ samples n u = List.replicate j 1 ++ 0 :: bits
          ∧ j * s.cfg.tPollUs < msTicks s.cfg.tReadTimeoutMs + s.cfg.tPollUs
          ∧ lineTrace n u
            = List.replicate (j + 1) .get ++ (List.replicate 24 [LineOp.set 1, .get, .set 0]).flatten
              ++ (List.replicate (trailingPulses s.sel) [LineOp.set 1, .set 0]).flatten
          ∧ t.result = sext32 (bits.foldl shiftIn 0) ∧ t.valid = true ∧ t.sel = s.sel ∧ t.sck = 0
          ∧ t.now = s.now + ticks (j * s.cfg.tPollUs + totalPulses s.sel * pulseTicks s.cfg)

/-- 41_acquire.md R92, R96, 42_power.md R104, R106: a line operation that returns err ends a WAIT_READY, READ, SLEEP or
WAKE at that operation with IO_ERROR; a READ clears VALID, and RESULT is unchanged. -/
def Obligations.PinErrorEndsTheCommand : Prop :=
  ∀ (s : State) (ts : List Turn),
    s.cfg.legal = true → s.cfg.pinFallible = true → s.Inv → s.turns = .block true :: ts →
    s.pp ∈ [Point.wSample, .rwSample, .dRise, .dSample, .dFall, .tRise, .tFall, .sSet, .kSet] →
    ∃ t, step s = .next t ∧ t.err = .ioError ∧ t.busy = false ∧ t.pp = .idle ∧ t.op = .none ∧ t.now = s.now
      ∧ t.result = s.result ∧ t.init = s.init ∧ t.sel = s.sel ∧ t.asleep = s.asleep
      ∧ t.valid = (if s.op = .read then false else s.valid)
      ∧ (s.pp ∈ [Point.wSample, .rwSample, .dSample] → t.sck = s.sck)

/-! ## Invariants -/

/-- The invariant of the block holds after reset. -/
def Obligations.InvAtReset : Prop := State.reset.Inv

/-- Every step keeps the invariant of the block: among its clauses, STATUS.SEL never reads 3 (10_state.md R37), RESULT
is a sign-extended 24-bit code (R35), ERR is 0 while a command runs (R36), an initialised engine's lines are
configured (40_init.md R86), before INIT's configuration DOUT is not configured (92_eei_decisions.md D22, D37), and no
Delay outlasts its length (20_memory.md R58). -/
def Obligations.StepKeepsInv : Prop := ∀ s t : State, s.Inv → step s = .next t → t.Inv

/-- What holds between the engine and a conforming sensor holds after reset. -/
def Obligations.SensorInvAtReset : Prop := SensorInv State.reset

/-- Every step of a system with a conforming sensor keeps what holds between the engine and the sensor: among its
clauses, the sensor's state is unknown until an INIT has configured the lines (70_reset_and_hazards.md R136), a READ's
clock pulses never put the sensor into low-power mode (R141), and in a READ of a ready conversion the accumulator holds
the bits of the sensor's code (41_acquire.md R93). The sensor record, and that an SCK level the spec leaves open is
steady, are the model's choices (log entries 8 to 13, 23 and 24). -/
def Obligations.StepKeepsSensorInv : Prop :=
  ∀ s t : State, s.Inv → SensorInv s → conforming s → step s = .next t → SensorInv t

/-- 43_gain_select.md R112, the one-reading lag. A READ that begins on a conversion that is ready counts with the
sensor until it commits; when it commits it returns the code of that conversion and programs the next conversion with
s.sel; from then on, until a SLEEP, WAKE, INIT or reset intervenes or another READ commits, the next conversion is
made with that selector; and the next READ of a ready conversion to commit returns a conversion made with it. R112
speaks of such READs (log entry 23). -/
def Obligations.OneReadingLag : Prop :=
  (∀ (s t : State),
      s.Inv → SensorInv s → s.sensor.known = true → s.sensor.offer = .ready → s.pp = .rwSample →
      (∃ e, (nextMove s).1 = .engine e) → step s = .next t → t.pp = .dRise → readsReady t)
    ∧ (∀ (s t : State),
      s.Inv → SensorInv s → conforming s → s.pp.shifts = true → readsReady s → step s = .next t →
      t.pp.shifts = true → t.sensor.known = true → readsReady t)
    ∧ (∀ (s t : State),
      s.Inv → SensorInv s → s.sensor.known = true → readsReady s → s.pp = .rCommit →
      (∃ e, (nextMove s).1 = .engine e) → step s = .next t →
      t.result = sext32 s.sensor.code ∧ t.sensor.codeSel = s.sensor.codeSel ∧ lagInv (selectorOf s.sel) t)
    ∧ (∀ (s t : State) (c : Option Selector),
      s.Inv → SensorInv s → conforming s → lagInv c s → s.op ∈ [Op.none, .waitReady, .read] → s.pp ≠ .rCommit →
      (nextMove s).1 ≠ .reset → step s = .next t → lagInv c t)
    ∧ (∀ (s : State) (c : Option Selector),
      lagInv c s → s.sensor.known = true → readsReady s → s.pp = .rCommit → s.sensor.codeSel = c)

/-! ## Bounded completion -/

/-- 70_reset_and_hazards.md R149: the ticks left of a running command fall by one with every tick and never rise while
it runs. -/
def Obligations.TicksLeftFallWithTime : Prop :=
  ∀ s t : State,
    s.Inv → s.busy = true → step s = .next t → t.busy = true →
    ticksLeft t + (if (nextMove s).1 = .tick then 1 else 0) ≤ ticksLeft s

/-- 70_reset_and_hazards.md R149: an accepted command has at most its worst-case duration left. -/
def Obligations.AcceptedCommandHasWorstCaseLeft : Prop :=
  ∀ (s t : State) (i : Instr),
    s.Inv → s.cfg.legal = true → s.busy = false → exec i s = .next t → ticksLeft t ≤ worstTicks s.cfg i

/-- 70_reset_and_hazards.md R149, 20_memory.md R59: no command hangs: in every fair run a running command completes,
whatever inputs arrive. And fairness is needed: some run, with one host access after another at one instant, never
completes its command. -/
def Obligations.EveryCommandCompletesInFairRuns : Prop :=
  (∀ (r : Nat → State) (n : Nat), FairRun r → (r n).Inv → (r n).busy = true → ∃ m, n ≤ m ∧ (r m).busy = false)
    ∧ ∃ r : Nat → State,
      InputRun r ∧ (r 0).Inv ∧ ∀ n, (r n).busy = true ∧ (nextMove (r n)).1 = .host ∧ (r n).now = (r 0).now
end

