-- ==== Sys2Proof/Laws/State.lean ====
section
/-! SUPPORT. One lemma per field per update of the state, so that no later proof unfolds a record update. -/

namespace Sys2Proof.Machine

/-! ### goTo -/

@[simp] theorem goTo_cfg (p : Point) (s : State) : (goTo p s).cfg = s.cfg := rfl
@[simp] theorem goTo_init (p : Point) (s : State) : (goTo p s).init = s.init := rfl
@[simp] theorem goTo_sel (p : Point) (s : State) : (goTo p s).sel = s.sel := rfl
@[simp] theorem goTo_asleep (p : Point) (s : State) : (goTo p s).asleep = s.asleep := rfl
@[simp] theorem goTo_busy (p : Point) (s : State) : (goTo p s).busy = s.busy := rfl
@[simp] theorem goTo_err (p : Point) (s : State) : (goTo p s).err = s.err := rfl
@[simp] theorem goTo_valid (p : Point) (s : State) : (goTo p s).valid = s.valid := rfl
@[simp] theorem goTo_ovr (p : Point) (s : State) : (goTo p s).ovr = s.ovr := rfl
@[simp] theorem goTo_result (p : Point) (s : State) : (goTo p s).result = s.result := rfl
@[simp] theorem goTo_arg (p : Point) (s : State) : (goTo p s).arg = s.arg := rfl
@[simp] theorem goTo_acc (p : Point) (s : State) : (goTo p s).acc = s.acc := rfl
@[simp] theorem goTo_bit (p : Point) (s : State) : (goTo p s).bit = s.bit := rfl
@[simp] theorem goTo_trail (p : Point) (s : State) : (goTo p s).trail = s.trail := rfl
@[simp] theorem goTo_op (p : Point) (s : State) : (goTo p s).op = s.op := rfl
@[simp] theorem goTo_opnd (p : Point) (s : State) : (goTo p s).opnd = s.opnd := rfl
@[simp] theorem goTo_pp (p : Point) (s : State) : (goTo p s).pp = p := rfl
@[simp] theorem goTo_t0 (p : Point) (s : State) : (goTo p s).t0 = s.t0 := rfl
@[simp] theorem goTo_tmo (p : Point) (s : State) : (goTo p s).tmo = s.tmo := rfl
@[simp] theorem goTo_due (p : Point) (s : State) : (goTo p s).due = s.due := rfl
@[simp] theorem goTo_now (p : Point) (s : State) : (goTo p s).now = s.now := rfl
@[simp] theorem goTo_sckMode (p : Point) (s : State) : (goTo p s).sckMode = s.sckMode := rfl
@[simp] theorem goTo_doutMode (p : Point) (s : State) : (goTo p s).doutMode = s.doutMode := rfl
@[simp] theorem goTo_sck (p : Point) (s : State) : (goTo p s).sck = s.sck := rfl
@[simp] theorem goTo_doutDrive (p : Point) (s : State) : (goTo p s).doutDrive = s.doutDrive := rfl
@[simp] theorem goTo_doutFloat (p : Point) (s : State) : (goTo p s).doutFloat = s.doutFloat := rfl
@[simp] theorem goTo_dout (p : Point) (s : State) : (goTo p s).dout = s.dout := rfl
@[simp] theorem goTo_sensor (p : Point) (s : State) : (goTo p s).sensor = s.sensor := rfl
@[simp] theorem goTo_host (p : Point) (s : State) : (goTo p s).host = s.host := rfl
@[simp] theorem goTo_trace (p : Point) (s : State) : (goTo p s).trace = s.trace := rfl
@[simp] theorem goTo_turns (p : Point) (s : State) : (goTo p s).turns = s.turns := rfl
@[simp] theorem goTo_stream (p : Point) (s : State) : (goTo p s).stream = s.stream := rfl
@[simp] theorem goTo_draws (p : Point) (s : State) : (goTo p s).draws = s.draws := rfl

/-! ### holdAt -/

@[simp] theorem holdAt_cfg (p : Point) (d : Nat) (s : State) : (holdAt p d s).cfg = s.cfg := rfl
@[simp] theorem holdAt_init (p : Point) (d : Nat) (s : State) : (holdAt p d s).init = s.init := rfl
@[simp] theorem holdAt_sel (p : Point) (d : Nat) (s : State) : (holdAt p d s).sel = s.sel := rfl
@[simp] theorem holdAt_asleep (p : Point) (d : Nat) (s : State) : (holdAt p d s).asleep = s.asleep := rfl
@[simp] theorem holdAt_busy (p : Point) (d : Nat) (s : State) : (holdAt p d s).busy = s.busy := rfl
@[simp] theorem holdAt_err (p : Point) (d : Nat) (s : State) : (holdAt p d s).err = s.err := rfl
@[simp] theorem holdAt_valid (p : Point) (d : Nat) (s : State) : (holdAt p d s).valid = s.valid := rfl
@[simp] theorem holdAt_ovr (p : Point) (d : Nat) (s : State) : (holdAt p d s).ovr = s.ovr := rfl
@[simp] theorem holdAt_result (p : Point) (d : Nat) (s : State) : (holdAt p d s).result = s.result := rfl
@[simp] theorem holdAt_arg (p : Point) (d : Nat) (s : State) : (holdAt p d s).arg = s.arg := rfl
@[simp] theorem holdAt_acc (p : Point) (d : Nat) (s : State) : (holdAt p d s).acc = s.acc := rfl
@[simp] theorem holdAt_bit (p : Point) (d : Nat) (s : State) : (holdAt p d s).bit = s.bit := rfl
@[simp] theorem holdAt_trail (p : Point) (d : Nat) (s : State) : (holdAt p d s).trail = s.trail := rfl
@[simp] theorem holdAt_op (p : Point) (d : Nat) (s : State) : (holdAt p d s).op = s.op := rfl
@[simp] theorem holdAt_opnd (p : Point) (d : Nat) (s : State) : (holdAt p d s).opnd = s.opnd := rfl
@[simp] theorem holdAt_pp (p : Point) (d : Nat) (s : State) : (holdAt p d s).pp = p := rfl
@[simp] theorem holdAt_t0 (p : Point) (d : Nat) (s : State) : (holdAt p d s).t0 = s.t0 := rfl
@[simp] theorem holdAt_tmo (p : Point) (d : Nat) (s : State) : (holdAt p d s).tmo = s.tmo := rfl
@[simp] theorem holdAt_due (p : Point) (d : Nat) (s : State) : (holdAt p d s).due = s.now + ticks d := rfl
@[simp] theorem holdAt_now (p : Point) (d : Nat) (s : State) : (holdAt p d s).now = s.now := rfl
@[simp] theorem holdAt_sckMode (p : Point) (d : Nat) (s : State) : (holdAt p d s).sckMode = s.sckMode := rfl
@[simp] theorem holdAt_doutMode (p : Point) (d : Nat) (s : State) : (holdAt p d s).doutMode = s.doutMode := rfl
@[simp] theorem holdAt_sck (p : Point) (d : Nat) (s : State) : (holdAt p d s).sck = s.sck := rfl
@[simp] theorem holdAt_doutDrive (p : Point) (d : Nat) (s : State) : (holdAt p d s).doutDrive = s.doutDrive := rfl
@[simp] theorem holdAt_doutFloat (p : Point) (d : Nat) (s : State) : (holdAt p d s).doutFloat = s.doutFloat := rfl
@[simp] theorem holdAt_dout (p : Point) (d : Nat) (s : State) : (holdAt p d s).dout = s.dout := rfl
@[simp] theorem holdAt_sensor (p : Point) (d : Nat) (s : State) : (holdAt p d s).sensor = s.sensor := rfl
@[simp] theorem holdAt_host (p : Point) (d : Nat) (s : State) : (holdAt p d s).host = s.host := rfl
@[simp] theorem holdAt_trace (p : Point) (d : Nat) (s : State) : (holdAt p d s).trace = s.trace := rfl
@[simp] theorem holdAt_turns (p : Point) (d : Nat) (s : State) : (holdAt p d s).turns = s.turns := rfl
@[simp] theorem holdAt_stream (p : Point) (d : Nat) (s : State) : (holdAt p d s).stream = s.stream := rfl
@[simp] theorem holdAt_draws (p : Point) (d : Nat) (s : State) : (holdAt p d s).draws = s.draws := rfl

/-! ### acceptUpdate -/

@[simp] theorem acceptUpdate_cfg (s : State) : (acceptUpdate s).cfg = s.cfg := rfl
@[simp] theorem acceptUpdate_init (s : State) : (acceptUpdate s).init = s.init := rfl
@[simp] theorem acceptUpdate_sel (s : State) : (acceptUpdate s).sel = s.sel := rfl
@[simp] theorem acceptUpdate_asleep (s : State) : (acceptUpdate s).asleep = s.asleep := rfl
@[simp] theorem acceptUpdate_busy (s : State) : (acceptUpdate s).busy = true := rfl
@[simp] theorem acceptUpdate_err (s : State) : (acceptUpdate s).err = .ok := rfl
@[simp] theorem acceptUpdate_valid (s : State) : (acceptUpdate s).valid = s.valid := rfl
@[simp] theorem acceptUpdate_ovr (s : State) : (acceptUpdate s).ovr = false := rfl
@[simp] theorem acceptUpdate_result (s : State) : (acceptUpdate s).result = s.result := rfl
@[simp] theorem acceptUpdate_arg (s : State) : (acceptUpdate s).arg = s.arg := rfl
@[simp] theorem acceptUpdate_acc (s : State) : (acceptUpdate s).acc = s.acc := rfl
@[simp] theorem acceptUpdate_bit (s : State) : (acceptUpdate s).bit = s.bit := rfl
@[simp] theorem acceptUpdate_trail (s : State) : (acceptUpdate s).trail = s.trail := rfl
@[simp] theorem acceptUpdate_op (s : State) : (acceptUpdate s).op = s.op := rfl
@[simp] theorem acceptUpdate_opnd (s : State) : (acceptUpdate s).opnd = s.opnd := rfl
@[simp] theorem acceptUpdate_pp (s : State) : (acceptUpdate s).pp = s.pp := rfl
@[simp] theorem acceptUpdate_t0 (s : State) : (acceptUpdate s).t0 = s.t0 := rfl
@[simp] theorem acceptUpdate_tmo (s : State) : (acceptUpdate s).tmo = s.tmo := rfl
@[simp] theorem acceptUpdate_due (s : State) : (acceptUpdate s).due = s.due := rfl
@[simp] theorem acceptUpdate_now (s : State) : (acceptUpdate s).now = s.now := rfl
@[simp] theorem acceptUpdate_sckMode (s : State) : (acceptUpdate s).sckMode = s.sckMode := rfl
@[simp] theorem acceptUpdate_doutMode (s : State) : (acceptUpdate s).doutMode = s.doutMode := rfl
@[simp] theorem acceptUpdate_sck (s : State) : (acceptUpdate s).sck = s.sck := rfl
@[simp] theorem acceptUpdate_doutDrive (s : State) : (acceptUpdate s).doutDrive = s.doutDrive := rfl
@[simp] theorem acceptUpdate_doutFloat (s : State) : (acceptUpdate s).doutFloat = s.doutFloat := rfl
@[simp] theorem acceptUpdate_dout (s : State) : (acceptUpdate s).dout = s.dout := rfl
@[simp] theorem acceptUpdate_sensor (s : State) : (acceptUpdate s).sensor = s.sensor := rfl
@[simp] theorem acceptUpdate_host (s : State) : (acceptUpdate s).host = s.host := rfl
@[simp] theorem acceptUpdate_trace (s : State) : (acceptUpdate s).trace = s.trace := rfl
@[simp] theorem acceptUpdate_turns (s : State) : (acceptUpdate s).turns = s.turns := rfl
@[simp] theorem acceptUpdate_stream (s : State) : (acceptUpdate s).stream = s.stream := rfl
@[simp] theorem acceptUpdate_draws (s : State) : (acceptUpdate s).draws = s.draws := rfl

/-! ### dropWord -/

@[simp] theorem dropWord_cfg (s : State) : (dropWord s).cfg = s.cfg := rfl
@[simp] theorem dropWord_init (s : State) : (dropWord s).init = s.init := rfl
@[simp] theorem dropWord_sel (s : State) : (dropWord s).sel = s.sel := rfl
@[simp] theorem dropWord_asleep (s : State) : (dropWord s).asleep = s.asleep := rfl
@[simp] theorem dropWord_busy (s : State) : (dropWord s).busy = s.busy := rfl
@[simp] theorem dropWord_err (s : State) : (dropWord s).err = s.err := rfl
@[simp] theorem dropWord_valid (s : State) : (dropWord s).valid = s.valid := rfl
@[simp] theorem dropWord_ovr (s : State) : (dropWord s).ovr = true := rfl
@[simp] theorem dropWord_result (s : State) : (dropWord s).result = s.result := rfl
@[simp] theorem dropWord_arg (s : State) : (dropWord s).arg = s.arg := rfl
@[simp] theorem dropWord_acc (s : State) : (dropWord s).acc = s.acc := rfl
@[simp] theorem dropWord_bit (s : State) : (dropWord s).bit = s.bit := rfl
@[simp] theorem dropWord_trail (s : State) : (dropWord s).trail = s.trail := rfl
@[simp] theorem dropWord_op (s : State) : (dropWord s).op = s.op := rfl
@[simp] theorem dropWord_opnd (s : State) : (dropWord s).opnd = s.opnd := rfl
@[simp] theorem dropWord_pp (s : State) : (dropWord s).pp = s.pp := rfl
@[simp] theorem dropWord_t0 (s : State) : (dropWord s).t0 = s.t0 := rfl
@[simp] theorem dropWord_tmo (s : State) : (dropWord s).tmo = s.tmo := rfl
@[simp] theorem dropWord_due (s : State) : (dropWord s).due = s.due := rfl
@[simp] theorem dropWord_now (s : State) : (dropWord s).now = s.now := rfl
@[simp] theorem dropWord_sckMode (s : State) : (dropWord s).sckMode = s.sckMode := rfl
@[simp] theorem dropWord_doutMode (s : State) : (dropWord s).doutMode = s.doutMode := rfl
@[simp] theorem dropWord_sck (s : State) : (dropWord s).sck = s.sck := rfl
@[simp] theorem dropWord_doutDrive (s : State) : (dropWord s).doutDrive = s.doutDrive := rfl
@[simp] theorem dropWord_doutFloat (s : State) : (dropWord s).doutFloat = s.doutFloat := rfl
@[simp] theorem dropWord_dout (s : State) : (dropWord s).dout = s.dout := rfl
@[simp] theorem dropWord_sensor (s : State) : (dropWord s).sensor = s.sensor := rfl
@[simp] theorem dropWord_host (s : State) : (dropWord s).host = s.host := rfl
@[simp] theorem dropWord_trace (s : State) : (dropWord s).trace = s.trace := rfl
@[simp] theorem dropWord_turns (s : State) : (dropWord s).turns = s.turns := rfl
@[simp] theorem dropWord_stream (s : State) : (dropWord s).stream = s.stream := rfl
@[simp] theorem dropWord_draws (s : State) : (dropWord s).draws = s.draws := rfl

/-! ### complete -/

@[simp] theorem complete_cfg (b : Bool) (st : Status) (s : State) : (complete b st s).cfg = s.cfg := rfl
@[simp] theorem complete_init (b : Bool) (st : Status) (s : State) : (complete b st s).init = s.init := rfl
@[simp] theorem complete_sel (b : Bool) (st : Status) (s : State) : (complete b st s).sel = s.sel := rfl
@[simp] theorem complete_asleep (b : Bool) (st : Status) (s : State) : (complete b st s).asleep = s.asleep := rfl
@[simp] theorem complete_busy (b : Bool) (st : Status) (s : State) : (complete b st s).busy = false := rfl
@[simp] theorem complete_err (b : Bool) (st : Status) (s : State) : (complete b st s).err = st := rfl
@[simp] theorem complete_valid (b : Bool) (st : Status) (s : State) : (complete b st s).valid = if b && st != .ok then false else s.valid := rfl
@[simp] theorem complete_ovr (b : Bool) (st : Status) (s : State) : (complete b st s).ovr = s.ovr := rfl
@[simp] theorem complete_result (b : Bool) (st : Status) (s : State) : (complete b st s).result = s.result := rfl
@[simp] theorem complete_arg (b : Bool) (st : Status) (s : State) : (complete b st s).arg = s.arg := rfl
@[simp] theorem complete_acc (b : Bool) (st : Status) (s : State) : (complete b st s).acc = s.acc := rfl
@[simp] theorem complete_bit (b : Bool) (st : Status) (s : State) : (complete b st s).bit = s.bit := rfl
@[simp] theorem complete_trail (b : Bool) (st : Status) (s : State) : (complete b st s).trail = s.trail := rfl
@[simp] theorem complete_op (b : Bool) (st : Status) (s : State) : (complete b st s).op = .none := rfl
@[simp] theorem complete_opnd (b : Bool) (st : Status) (s : State) : (complete b st s).opnd = s.opnd := rfl
@[simp] theorem complete_pp (b : Bool) (st : Status) (s : State) : (complete b st s).pp = .idle := rfl
@[simp] theorem complete_t0 (b : Bool) (st : Status) (s : State) : (complete b st s).t0 = s.t0 := rfl
@[simp] theorem complete_tmo (b : Bool) (st : Status) (s : State) : (complete b st s).tmo = s.tmo := rfl
@[simp] theorem complete_due (b : Bool) (st : Status) (s : State) : (complete b st s).due = s.due := rfl
@[simp] theorem complete_now (b : Bool) (st : Status) (s : State) : (complete b st s).now = s.now := rfl
@[simp] theorem complete_sckMode (b : Bool) (st : Status) (s : State) : (complete b st s).sckMode = s.sckMode := rfl
@[simp] theorem complete_doutMode (b : Bool) (st : Status) (s : State) : (complete b st s).doutMode = s.doutMode := rfl
@[simp] theorem complete_sck (b : Bool) (st : Status) (s : State) : (complete b st s).sck = s.sck := rfl
@[simp] theorem complete_doutDrive (b : Bool) (st : Status) (s : State) : (complete b st s).doutDrive = s.doutDrive := rfl
@[simp] theorem complete_doutFloat (b : Bool) (st : Status) (s : State) : (complete b st s).doutFloat = s.doutFloat := rfl
@[simp] theorem complete_dout (b : Bool) (st : Status) (s : State) : (complete b st s).dout = s.dout := rfl
@[simp] theorem complete_sensor (b : Bool) (st : Status) (s : State) : (complete b st s).sensor = s.sensor := rfl
@[simp] theorem complete_host (b : Bool) (st : Status) (s : State) : (complete b st s).host = s.host := rfl
@[simp] theorem complete_trace (b : Bool) (st : Status) (s : State) : (complete b st s).trace = s.trace := rfl
@[simp] theorem complete_turns (b : Bool) (st : Status) (s : State) : (complete b st s).turns = s.turns := rfl
@[simp] theorem complete_stream (b : Bool) (st : Status) (s : State) : (complete b st s).stream = s.stream := rfl
@[simp] theorem complete_draws (b : Bool) (st : Status) (s : State) : (complete b st s).draws = s.draws := rfl

/-! ### startAt -/

@[simp] theorem startAt_cfg (o : Op) (p : Point) (s : State) : (startAt o p s).cfg = s.cfg := rfl
@[simp] theorem startAt_init (o : Op) (p : Point) (s : State) : (startAt o p s).init = s.init := rfl
@[simp] theorem startAt_sel (o : Op) (p : Point) (s : State) : (startAt o p s).sel = s.sel := rfl
@[simp] theorem startAt_asleep (o : Op) (p : Point) (s : State) : (startAt o p s).asleep = s.asleep := rfl
@[simp] theorem startAt_busy (o : Op) (p : Point) (s : State) : (startAt o p s).busy = s.busy := rfl
@[simp] theorem startAt_err (o : Op) (p : Point) (s : State) : (startAt o p s).err = s.err := rfl
@[simp] theorem startAt_valid (o : Op) (p : Point) (s : State) : (startAt o p s).valid = s.valid := rfl
@[simp] theorem startAt_ovr (o : Op) (p : Point) (s : State) : (startAt o p s).ovr = s.ovr := rfl
@[simp] theorem startAt_result (o : Op) (p : Point) (s : State) : (startAt o p s).result = s.result := rfl
@[simp] theorem startAt_arg (o : Op) (p : Point) (s : State) : (startAt o p s).arg = s.arg := rfl
@[simp] theorem startAt_acc (o : Op) (p : Point) (s : State) : (startAt o p s).acc = s.acc := rfl
@[simp] theorem startAt_bit (o : Op) (p : Point) (s : State) : (startAt o p s).bit = s.bit := rfl
@[simp] theorem startAt_trail (o : Op) (p : Point) (s : State) : (startAt o p s).trail = s.trail := rfl
@[simp] theorem startAt_op (o : Op) (p : Point) (s : State) : (startAt o p s).op = o := rfl
@[simp] theorem startAt_opnd (o : Op) (p : Point) (s : State) : (startAt o p s).opnd = s.opnd := rfl
@[simp] theorem startAt_pp (o : Op) (p : Point) (s : State) : (startAt o p s).pp = p := rfl
@[simp] theorem startAt_t0 (o : Op) (p : Point) (s : State) : (startAt o p s).t0 = s.t0 := rfl
@[simp] theorem startAt_tmo (o : Op) (p : Point) (s : State) : (startAt o p s).tmo = s.tmo := rfl
@[simp] theorem startAt_due (o : Op) (p : Point) (s : State) : (startAt o p s).due = s.due := rfl
@[simp] theorem startAt_now (o : Op) (p : Point) (s : State) : (startAt o p s).now = s.now := rfl
@[simp] theorem startAt_sckMode (o : Op) (p : Point) (s : State) : (startAt o p s).sckMode = s.sckMode := rfl
@[simp] theorem startAt_doutMode (o : Op) (p : Point) (s : State) : (startAt o p s).doutMode = s.doutMode := rfl
@[simp] theorem startAt_sck (o : Op) (p : Point) (s : State) : (startAt o p s).sck = s.sck := rfl
@[simp] theorem startAt_doutDrive (o : Op) (p : Point) (s : State) : (startAt o p s).doutDrive = s.doutDrive := rfl
@[simp] theorem startAt_doutFloat (o : Op) (p : Point) (s : State) : (startAt o p s).doutFloat = s.doutFloat := rfl
@[simp] theorem startAt_dout (o : Op) (p : Point) (s : State) : (startAt o p s).dout = s.dout := rfl
@[simp] theorem startAt_sensor (o : Op) (p : Point) (s : State) : (startAt o p s).sensor = s.sensor := rfl
@[simp] theorem startAt_host (o : Op) (p : Point) (s : State) : (startAt o p s).host = s.host := rfl
@[simp] theorem startAt_trace (o : Op) (p : Point) (s : State) : (startAt o p s).trace = s.trace := rfl
@[simp] theorem startAt_turns (o : Op) (p : Point) (s : State) : (startAt o p s).turns = s.turns := rfl
@[simp] theorem startAt_stream (o : Op) (p : Point) (s : State) : (startAt o p s).stream = s.stream := rfl
@[simp] theorem startAt_draws (o : Op) (p : Point) (s : State) : (startAt o p s).draws = s.draws := rfl

/-! ### startWait -/

@[simp] theorem startWait_cfg (d : Tick) (s : State) : (startWait d s).cfg = s.cfg := rfl
@[simp] theorem startWait_init (d : Tick) (s : State) : (startWait d s).init = s.init := rfl
@[simp] theorem startWait_sel (d : Tick) (s : State) : (startWait d s).sel = s.sel := rfl
@[simp] theorem startWait_asleep (d : Tick) (s : State) : (startWait d s).asleep = s.asleep := rfl
@[simp] theorem startWait_busy (d : Tick) (s : State) : (startWait d s).busy = s.busy := rfl
@[simp] theorem startWait_err (d : Tick) (s : State) : (startWait d s).err = s.err := rfl
@[simp] theorem startWait_valid (d : Tick) (s : State) : (startWait d s).valid = s.valid := rfl
@[simp] theorem startWait_ovr (d : Tick) (s : State) : (startWait d s).ovr = s.ovr := rfl
@[simp] theorem startWait_result (d : Tick) (s : State) : (startWait d s).result = s.result := rfl
@[simp] theorem startWait_arg (d : Tick) (s : State) : (startWait d s).arg = s.arg := rfl
@[simp] theorem startWait_acc (d : Tick) (s : State) : (startWait d s).acc = s.acc := rfl
@[simp] theorem startWait_bit (d : Tick) (s : State) : (startWait d s).bit = s.bit := rfl
@[simp] theorem startWait_trail (d : Tick) (s : State) : (startWait d s).trail = s.trail := rfl
@[simp] theorem startWait_op (d : Tick) (s : State) : (startWait d s).op = s.op := rfl
@[simp] theorem startWait_opnd (d : Tick) (s : State) : (startWait d s).opnd = s.opnd := rfl
@[simp] theorem startWait_pp (d : Tick) (s : State) : (startWait d s).pp = s.pp := rfl
@[simp] theorem startWait_t0 (d : Tick) (s : State) : (startWait d s).t0 = s.now := rfl
@[simp] theorem startWait_tmo (d : Tick) (s : State) : (startWait d s).tmo = d := rfl
@[simp] theorem startWait_due (d : Tick) (s : State) : (startWait d s).due = s.due := rfl
@[simp] theorem startWait_now (d : Tick) (s : State) : (startWait d s).now = s.now := rfl
@[simp] theorem startWait_sckMode (d : Tick) (s : State) : (startWait d s).sckMode = s.sckMode := rfl
@[simp] theorem startWait_doutMode (d : Tick) (s : State) : (startWait d s).doutMode = s.doutMode := rfl
@[simp] theorem startWait_sck (d : Tick) (s : State) : (startWait d s).sck = s.sck := rfl
@[simp] theorem startWait_doutDrive (d : Tick) (s : State) : (startWait d s).doutDrive = s.doutDrive := rfl
@[simp] theorem startWait_doutFloat (d : Tick) (s : State) : (startWait d s).doutFloat = s.doutFloat := rfl
@[simp] theorem startWait_dout (d : Tick) (s : State) : (startWait d s).dout = s.dout := rfl
@[simp] theorem startWait_sensor (d : Tick) (s : State) : (startWait d s).sensor = s.sensor := rfl
@[simp] theorem startWait_host (d : Tick) (s : State) : (startWait d s).host = s.host := rfl
@[simp] theorem startWait_trace (d : Tick) (s : State) : (startWait d s).trace = s.trace := rfl
@[simp] theorem startWait_turns (d : Tick) (s : State) : (startWait d s).turns = s.turns := rfl
@[simp] theorem startWait_stream (d : Tick) (s : State) : (startWait d s).stream = s.stream := rfl
@[simp] theorem startWait_draws (d : Tick) (s : State) : (startWait d s).draws = s.draws := rfl

/-! ### driveSck -/

@[simp] theorem driveSck_cfg (l : Level) (s : State) : (driveSck l s).cfg = s.cfg := rfl
@[simp] theorem driveSck_init (l : Level) (s : State) : (driveSck l s).init = s.init := rfl
@[simp] theorem driveSck_sel (l : Level) (s : State) : (driveSck l s).sel = s.sel := rfl
@[simp] theorem driveSck_asleep (l : Level) (s : State) : (driveSck l s).asleep = s.asleep := rfl
@[simp] theorem driveSck_busy (l : Level) (s : State) : (driveSck l s).busy = s.busy := rfl
@[simp] theorem driveSck_err (l : Level) (s : State) : (driveSck l s).err = s.err := rfl
@[simp] theorem driveSck_valid (l : Level) (s : State) : (driveSck l s).valid = s.valid := rfl
@[simp] theorem driveSck_ovr (l : Level) (s : State) : (driveSck l s).ovr = s.ovr := rfl
@[simp] theorem driveSck_result (l : Level) (s : State) : (driveSck l s).result = s.result := rfl
@[simp] theorem driveSck_arg (l : Level) (s : State) : (driveSck l s).arg = s.arg := rfl
@[simp] theorem driveSck_acc (l : Level) (s : State) : (driveSck l s).acc = s.acc := rfl
@[simp] theorem driveSck_bit (l : Level) (s : State) : (driveSck l s).bit = s.bit := rfl
@[simp] theorem driveSck_trail (l : Level) (s : State) : (driveSck l s).trail = s.trail := rfl
@[simp] theorem driveSck_op (l : Level) (s : State) : (driveSck l s).op = s.op := rfl
@[simp] theorem driveSck_opnd (l : Level) (s : State) : (driveSck l s).opnd = s.opnd := rfl
@[simp] theorem driveSck_pp (l : Level) (s : State) : (driveSck l s).pp = s.pp := rfl
@[simp] theorem driveSck_t0 (l : Level) (s : State) : (driveSck l s).t0 = s.t0 := rfl
@[simp] theorem driveSck_tmo (l : Level) (s : State) : (driveSck l s).tmo = s.tmo := rfl
@[simp] theorem driveSck_due (l : Level) (s : State) : (driveSck l s).due = s.due := rfl
@[simp] theorem driveSck_now (l : Level) (s : State) : (driveSck l s).now = s.now := rfl
@[simp] theorem driveSck_sckMode (l : Level) (s : State) : (driveSck l s).sckMode = s.sckMode := rfl
@[simp] theorem driveSck_doutMode (l : Level) (s : State) : (driveSck l s).doutMode = s.doutMode := rfl
@[simp] theorem driveSck_sck (l : Level) (s : State) : (driveSck l s).sck = l := rfl
@[simp] theorem driveSck_doutDrive (l : Level) (s : State) : (driveSck l s).doutDrive = s.doutDrive := rfl
@[simp] theorem driveSck_doutFloat (l : Level) (s : State) : (driveSck l s).doutFloat = s.doutFloat := rfl
@[simp] theorem driveSck_dout (l : Level) (s : State) : (driveSck l s).dout = s.dout := rfl
@[simp] theorem driveSck_host (l : Level) (s : State) : (driveSck l s).host = s.host := rfl
@[simp] theorem driveSck_trace (l : Level) (s : State) : (driveSck l s).trace = s.trace := rfl
@[simp] theorem driveSck_turns (l : Level) (s : State) : (driveSck l s).turns = s.turns := rfl
@[simp] theorem driveSck_stream (l : Level) (s : State) : (driveSck l s).stream = s.stream := rfl
@[simp] theorem driveSck_draws (l : Level) (s : State) : (driveSck l s).draws = s.draws := rfl

/-! ### powerUpSensor -/

@[simp] theorem powerUpSensor_cfg (x : Sensor) (s : State) : (powerUpSensor x s).cfg = s.cfg := rfl
@[simp] theorem powerUpSensor_init (x : Sensor) (s : State) : (powerUpSensor x s).init = s.init := rfl
@[simp] theorem powerUpSensor_sel (x : Sensor) (s : State) : (powerUpSensor x s).sel = s.sel := rfl
@[simp] theorem powerUpSensor_asleep (x : Sensor) (s : State) : (powerUpSensor x s).asleep = s.asleep := rfl
@[simp] theorem powerUpSensor_busy (x : Sensor) (s : State) : (powerUpSensor x s).busy = s.busy := rfl
@[simp] theorem powerUpSensor_err (x : Sensor) (s : State) : (powerUpSensor x s).err = s.err := rfl
@[simp] theorem powerUpSensor_valid (x : Sensor) (s : State) : (powerUpSensor x s).valid = s.valid := rfl
@[simp] theorem powerUpSensor_ovr (x : Sensor) (s : State) : (powerUpSensor x s).ovr = s.ovr := rfl
@[simp] theorem powerUpSensor_result (x : Sensor) (s : State) : (powerUpSensor x s).result = s.result := rfl
@[simp] theorem powerUpSensor_arg (x : Sensor) (s : State) : (powerUpSensor x s).arg = s.arg := rfl
@[simp] theorem powerUpSensor_acc (x : Sensor) (s : State) : (powerUpSensor x s).acc = s.acc := rfl
@[simp] theorem powerUpSensor_bit (x : Sensor) (s : State) : (powerUpSensor x s).bit = s.bit := rfl
@[simp] theorem powerUpSensor_trail (x : Sensor) (s : State) : (powerUpSensor x s).trail = s.trail := rfl
@[simp] theorem powerUpSensor_op (x : Sensor) (s : State) : (powerUpSensor x s).op = s.op := rfl
@[simp] theorem powerUpSensor_opnd (x : Sensor) (s : State) : (powerUpSensor x s).opnd = s.opnd := rfl
@[simp] theorem powerUpSensor_pp (x : Sensor) (s : State) : (powerUpSensor x s).pp = s.pp := rfl
@[simp] theorem powerUpSensor_t0 (x : Sensor) (s : State) : (powerUpSensor x s).t0 = s.t0 := rfl
@[simp] theorem powerUpSensor_tmo (x : Sensor) (s : State) : (powerUpSensor x s).tmo = s.tmo := rfl
@[simp] theorem powerUpSensor_due (x : Sensor) (s : State) : (powerUpSensor x s).due = s.due := rfl
@[simp] theorem powerUpSensor_now (x : Sensor) (s : State) : (powerUpSensor x s).now = s.now := rfl
@[simp] theorem powerUpSensor_sckMode (x : Sensor) (s : State) : (powerUpSensor x s).sckMode = s.sckMode := rfl
@[simp] theorem powerUpSensor_doutMode (x : Sensor) (s : State) : (powerUpSensor x s).doutMode = s.doutMode := rfl
@[simp] theorem powerUpSensor_sck (x : Sensor) (s : State) : (powerUpSensor x s).sck = s.sck := rfl
@[simp] theorem powerUpSensor_doutDrive (x : Sensor) (s : State) : (powerUpSensor x s).doutDrive = s.doutDrive := rfl
@[simp] theorem powerUpSensor_doutFloat (x : Sensor) (s : State) : (powerUpSensor x s).doutFloat = s.doutFloat := rfl
@[simp] theorem powerUpSensor_dout (x : Sensor) (s : State) : (powerUpSensor x s).dout = s.dout := rfl
@[simp] theorem powerUpSensor_host (x : Sensor) (s : State) : (powerUpSensor x s).host = s.host := rfl
@[simp] theorem powerUpSensor_trace (x : Sensor) (s : State) : (powerUpSensor x s).trace = s.trace := rfl
@[simp] theorem powerUpSensor_turns (x : Sensor) (s : State) : (powerUpSensor x s).turns = s.turns := rfl
@[simp] theorem powerUpSensor_stream (x : Sensor) (s : State) : (powerUpSensor x s).stream = s.stream := rfl
@[simp] theorem powerUpSensor_draws (x : Sensor) (s : State) : (powerUpSensor x s).draws = s.draws := rfl

/-! ### wakeSensor -/

@[simp] theorem wakeSensor_cfg (x : Sensor) (s : State) : (wakeSensor x s).cfg = s.cfg := rfl
@[simp] theorem wakeSensor_init (x : Sensor) (s : State) : (wakeSensor x s).init = s.init := rfl
@[simp] theorem wakeSensor_sel (x : Sensor) (s : State) : (wakeSensor x s).sel = s.sel := rfl
@[simp] theorem wakeSensor_asleep (x : Sensor) (s : State) : (wakeSensor x s).asleep = s.asleep := rfl
@[simp] theorem wakeSensor_busy (x : Sensor) (s : State) : (wakeSensor x s).busy = s.busy := rfl
@[simp] theorem wakeSensor_err (x : Sensor) (s : State) : (wakeSensor x s).err = s.err := rfl
@[simp] theorem wakeSensor_valid (x : Sensor) (s : State) : (wakeSensor x s).valid = s.valid := rfl
@[simp] theorem wakeSensor_ovr (x : Sensor) (s : State) : (wakeSensor x s).ovr = s.ovr := rfl
@[simp] theorem wakeSensor_result (x : Sensor) (s : State) : (wakeSensor x s).result = s.result := rfl
@[simp] theorem wakeSensor_arg (x : Sensor) (s : State) : (wakeSensor x s).arg = s.arg := rfl
@[simp] theorem wakeSensor_acc (x : Sensor) (s : State) : (wakeSensor x s).acc = s.acc := rfl
@[simp] theorem wakeSensor_bit (x : Sensor) (s : State) : (wakeSensor x s).bit = s.bit := rfl
@[simp] theorem wakeSensor_trail (x : Sensor) (s : State) : (wakeSensor x s).trail = s.trail := rfl
@[simp] theorem wakeSensor_op (x : Sensor) (s : State) : (wakeSensor x s).op = s.op := rfl
@[simp] theorem wakeSensor_opnd (x : Sensor) (s : State) : (wakeSensor x s).opnd = s.opnd := rfl
@[simp] theorem wakeSensor_pp (x : Sensor) (s : State) : (wakeSensor x s).pp = s.pp := rfl
@[simp] theorem wakeSensor_t0 (x : Sensor) (s : State) : (wakeSensor x s).t0 = s.t0 := rfl
@[simp] theorem wakeSensor_tmo (x : Sensor) (s : State) : (wakeSensor x s).tmo = s.tmo := rfl
@[simp] theorem wakeSensor_due (x : Sensor) (s : State) : (wakeSensor x s).due = s.due := rfl
@[simp] theorem wakeSensor_now (x : Sensor) (s : State) : (wakeSensor x s).now = s.now := rfl
@[simp] theorem wakeSensor_sckMode (x : Sensor) (s : State) : (wakeSensor x s).sckMode = s.sckMode := rfl
@[simp] theorem wakeSensor_doutMode (x : Sensor) (s : State) : (wakeSensor x s).doutMode = s.doutMode := rfl
@[simp] theorem wakeSensor_sck (x : Sensor) (s : State) : (wakeSensor x s).sck = s.sck := rfl
@[simp] theorem wakeSensor_doutDrive (x : Sensor) (s : State) : (wakeSensor x s).doutDrive = s.doutDrive := rfl
@[simp] theorem wakeSensor_doutFloat (x : Sensor) (s : State) : (wakeSensor x s).doutFloat = s.doutFloat := rfl
@[simp] theorem wakeSensor_dout (x : Sensor) (s : State) : (wakeSensor x s).dout = s.dout := rfl
@[simp] theorem wakeSensor_host (x : Sensor) (s : State) : (wakeSensor x s).host = s.host := rfl
@[simp] theorem wakeSensor_trace (x : Sensor) (s : State) : (wakeSensor x s).trace = s.trace := rfl
@[simp] theorem wakeSensor_turns (x : Sensor) (s : State) : (wakeSensor x s).turns = s.turns := rfl
@[simp] theorem wakeSensor_stream (x : Sensor) (s : State) : (wakeSensor x s).stream = s.stream := rfl
@[simp] theorem wakeSensor_draws (x : Sensor) (s : State) : (wakeSensor x s).draws = s.draws := rfl

/-! ### loseSensor -/

@[simp] theorem loseSensor_cfg (s : State) : (loseSensor s).cfg = s.cfg := rfl
@[simp] theorem loseSensor_init (s : State) : (loseSensor s).init = s.init := rfl
@[simp] theorem loseSensor_sel (s : State) : (loseSensor s).sel = s.sel := rfl
@[simp] theorem loseSensor_asleep (s : State) : (loseSensor s).asleep = s.asleep := rfl
@[simp] theorem loseSensor_busy (s : State) : (loseSensor s).busy = s.busy := rfl
@[simp] theorem loseSensor_err (s : State) : (loseSensor s).err = s.err := rfl
@[simp] theorem loseSensor_valid (s : State) : (loseSensor s).valid = s.valid := rfl
@[simp] theorem loseSensor_ovr (s : State) : (loseSensor s).ovr = s.ovr := rfl
@[simp] theorem loseSensor_result (s : State) : (loseSensor s).result = s.result := rfl
@[simp] theorem loseSensor_arg (s : State) : (loseSensor s).arg = s.arg := rfl
@[simp] theorem loseSensor_acc (s : State) : (loseSensor s).acc = s.acc := rfl
@[simp] theorem loseSensor_bit (s : State) : (loseSensor s).bit = s.bit := rfl
@[simp] theorem loseSensor_trail (s : State) : (loseSensor s).trail = s.trail := rfl
@[simp] theorem loseSensor_op (s : State) : (loseSensor s).op = s.op := rfl
@[simp] theorem loseSensor_opnd (s : State) : (loseSensor s).opnd = s.opnd := rfl
@[simp] theorem loseSensor_pp (s : State) : (loseSensor s).pp = s.pp := rfl
@[simp] theorem loseSensor_t0 (s : State) : (loseSensor s).t0 = s.t0 := rfl
@[simp] theorem loseSensor_tmo (s : State) : (loseSensor s).tmo = s.tmo := rfl
@[simp] theorem loseSensor_due (s : State) : (loseSensor s).due = s.due := rfl
@[simp] theorem loseSensor_now (s : State) : (loseSensor s).now = s.now := rfl
@[simp] theorem loseSensor_sckMode (s : State) : (loseSensor s).sckMode = s.sckMode := rfl
@[simp] theorem loseSensor_doutMode (s : State) : (loseSensor s).doutMode = s.doutMode := rfl
@[simp] theorem loseSensor_sck (s : State) : (loseSensor s).sck = s.sck := rfl
@[simp] theorem loseSensor_doutDrive (s : State) : (loseSensor s).doutDrive = s.doutDrive := rfl
@[simp] theorem loseSensor_doutFloat (s : State) : (loseSensor s).doutFloat = s.doutFloat := rfl
@[simp] theorem loseSensor_dout (s : State) : (loseSensor s).dout = s.dout := rfl
@[simp] theorem loseSensor_host (s : State) : (loseSensor s).host = s.host := rfl
@[simp] theorem loseSensor_trace (s : State) : (loseSensor s).trace = s.trace := rfl
@[simp] theorem loseSensor_turns (s : State) : (loseSensor s).turns = s.turns := rfl
@[simp] theorem loseSensor_stream (s : State) : (loseSensor s).stream = s.stream := rfl
@[simp] theorem loseSensor_draws (s : State) : (loseSensor s).draws = s.draws := rfl

/-! ### timeStep -/

@[simp] theorem timeStep_cfg (s : State) : (timeStep s).cfg = s.cfg := rfl
@[simp] theorem timeStep_init (s : State) : (timeStep s).init = s.init := rfl
@[simp] theorem timeStep_sel (s : State) : (timeStep s).sel = s.sel := rfl
@[simp] theorem timeStep_asleep (s : State) : (timeStep s).asleep = s.asleep := rfl
@[simp] theorem timeStep_busy (s : State) : (timeStep s).busy = s.busy := rfl
@[simp] theorem timeStep_err (s : State) : (timeStep s).err = s.err := rfl
@[simp] theorem timeStep_valid (s : State) : (timeStep s).valid = s.valid := rfl
@[simp] theorem timeStep_ovr (s : State) : (timeStep s).ovr = s.ovr := rfl
@[simp] theorem timeStep_result (s : State) : (timeStep s).result = s.result := rfl
@[simp] theorem timeStep_arg (s : State) : (timeStep s).arg = s.arg := rfl
@[simp] theorem timeStep_acc (s : State) : (timeStep s).acc = s.acc := rfl
@[simp] theorem timeStep_bit (s : State) : (timeStep s).bit = s.bit := rfl
@[simp] theorem timeStep_trail (s : State) : (timeStep s).trail = s.trail := rfl
@[simp] theorem timeStep_op (s : State) : (timeStep s).op = s.op := rfl
@[simp] theorem timeStep_opnd (s : State) : (timeStep s).opnd = s.opnd := rfl
@[simp] theorem timeStep_pp (s : State) : (timeStep s).pp = s.pp := rfl
@[simp] theorem timeStep_t0 (s : State) : (timeStep s).t0 = s.t0 := rfl
@[simp] theorem timeStep_tmo (s : State) : (timeStep s).tmo = s.tmo := rfl
@[simp] theorem timeStep_due (s : State) : (timeStep s).due = s.due := rfl
@[simp] theorem timeStep_now (s : State) : (timeStep s).now = s.now + 1 := rfl
@[simp] theorem timeStep_sckMode (s : State) : (timeStep s).sckMode = s.sckMode := rfl
@[simp] theorem timeStep_doutMode (s : State) : (timeStep s).doutMode = s.doutMode := rfl
@[simp] theorem timeStep_sck (s : State) : (timeStep s).sck = s.sck := rfl
@[simp] theorem timeStep_doutDrive (s : State) : (timeStep s).doutDrive = s.doutDrive := rfl
@[simp] theorem timeStep_doutFloat (s : State) : (timeStep s).doutFloat = s.doutFloat := rfl
@[simp] theorem timeStep_dout (s : State) : (timeStep s).dout = s.dout := rfl
@[simp] theorem timeStep_sensor (s : State) : (timeStep s).sensor = s.sensor.tick s.sck := rfl
@[simp] theorem timeStep_host (s : State) : (timeStep s).host = hostTick s.host := rfl
@[simp] theorem timeStep_trace (s : State) : (timeStep s).trace = s.trace := rfl
@[simp] theorem timeStep_turns (s : State) : (timeStep s).turns = s.turns := rfl
@[simp] theorem timeStep_stream (s : State) : (timeStep s).stream = s.stream := rfl
@[simp] theorem timeStep_draws (s : State) : (timeStep s).draws = s.draws := rfl

/-! ### finish -/

@[simp] theorem finish_cfg (s : State) : (finish s).cfg = s.cfg := rfl
@[simp] theorem finish_init (s : State) : (finish s).init = s.init := rfl
@[simp] theorem finish_sel (s : State) : (finish s).sel = s.sel := rfl
@[simp] theorem finish_asleep (s : State) : (finish s).asleep = s.asleep := rfl
@[simp] theorem finish_busy (s : State) : (finish s).busy = false := rfl
@[simp] theorem finish_err (s : State) : (finish s).err = .ok := rfl
@[simp] theorem finish_ovr (s : State) : (finish s).ovr = s.ovr := rfl
@[simp] theorem finish_result (s : State) : (finish s).result = s.result := rfl
@[simp] theorem finish_arg (s : State) : (finish s).arg = s.arg := rfl
@[simp] theorem finish_acc (s : State) : (finish s).acc = s.acc := rfl
@[simp] theorem finish_bit (s : State) : (finish s).bit = s.bit := rfl
@[simp] theorem finish_trail (s : State) : (finish s).trail = s.trail := rfl
@[simp] theorem finish_op (s : State) : (finish s).op = .none := rfl
@[simp] theorem finish_opnd (s : State) : (finish s).opnd = s.opnd := rfl
@[simp] theorem finish_pp (s : State) : (finish s).pp = .idle := rfl
@[simp] theorem finish_t0 (s : State) : (finish s).t0 = s.t0 := rfl
@[simp] theorem finish_tmo (s : State) : (finish s).tmo = s.tmo := rfl
@[simp] theorem finish_due (s : State) : (finish s).due = s.due := rfl
@[simp] theorem finish_now (s : State) : (finish s).now = s.now := rfl
@[simp] theorem finish_sckMode (s : State) : (finish s).sckMode = s.sckMode := rfl
@[simp] theorem finish_doutMode (s : State) : (finish s).doutMode = s.doutMode := rfl
@[simp] theorem finish_sck (s : State) : (finish s).sck = s.sck := rfl
@[simp] theorem finish_doutDrive (s : State) : (finish s).doutDrive = s.doutDrive := rfl
@[simp] theorem finish_doutFloat (s : State) : (finish s).doutFloat = s.doutFloat := rfl
@[simp] theorem finish_dout (s : State) : (finish s).dout = s.dout := rfl
@[simp] theorem finish_sensor (s : State) : (finish s).sensor = s.sensor := rfl
@[simp] theorem finish_host (s : State) : (finish s).host = s.host := rfl
@[simp] theorem finish_trace (s : State) : (finish s).trace = s.trace := rfl
@[simp] theorem finish_turns (s : State) : (finish s).turns = s.turns := rfl
@[simp] theorem finish_stream (s : State) : (finish s).stream = s.stream := rfl
@[simp] theorem finish_draws (s : State) : (finish s).draws = s.draws := rfl
@[simp] theorem finish_valid (s : State) : (finish s).valid = s.valid := by simp [finish]

/-! ### raiseStatus -/

@[simp] theorem raiseStatus_cfg (st : Status) (s : State) : (raiseStatus st s).cfg = s.cfg := rfl
@[simp] theorem raiseStatus_init (st : Status) (s : State) : (raiseStatus st s).init = s.init := rfl
@[simp] theorem raiseStatus_sel (st : Status) (s : State) : (raiseStatus st s).sel = s.sel := rfl
@[simp] theorem raiseStatus_asleep (st : Status) (s : State) : (raiseStatus st s).asleep = s.asleep := rfl
@[simp] theorem raiseStatus_busy (st : Status) (s : State) : (raiseStatus st s).busy = false := rfl
@[simp] theorem raiseStatus_err (st : Status) (s : State) : (raiseStatus st s).err = st := rfl
@[simp] theorem raiseStatus_valid (st : Status) (s : State) : (raiseStatus st s).valid = if s.op == .read && st != .ok then false else s.valid := rfl
@[simp] theorem raiseStatus_ovr (st : Status) (s : State) : (raiseStatus st s).ovr = s.ovr := rfl
@[simp] theorem raiseStatus_result (st : Status) (s : State) : (raiseStatus st s).result = s.result := rfl
@[simp] theorem raiseStatus_arg (st : Status) (s : State) : (raiseStatus st s).arg = s.arg := rfl
@[simp] theorem raiseStatus_acc (st : Status) (s : State) : (raiseStatus st s).acc = s.acc := rfl
@[simp] theorem raiseStatus_bit (st : Status) (s : State) : (raiseStatus st s).bit = s.bit := rfl
@[simp] theorem raiseStatus_trail (st : Status) (s : State) : (raiseStatus st s).trail = s.trail := rfl
@[simp] theorem raiseStatus_op (st : Status) (s : State) : (raiseStatus st s).op = .none := rfl
@[simp] theorem raiseStatus_opnd (st : Status) (s : State) : (raiseStatus st s).opnd = s.opnd := rfl
@[simp] theorem raiseStatus_pp (st : Status) (s : State) : (raiseStatus st s).pp = .idle := rfl
@[simp] theorem raiseStatus_t0 (st : Status) (s : State) : (raiseStatus st s).t0 = s.t0 := rfl
@[simp] theorem raiseStatus_tmo (st : Status) (s : State) : (raiseStatus st s).tmo = s.tmo := rfl
@[simp] theorem raiseStatus_due (st : Status) (s : State) : (raiseStatus st s).due = s.due := rfl
@[simp] theorem raiseStatus_now (st : Status) (s : State) : (raiseStatus st s).now = s.now := rfl
@[simp] theorem raiseStatus_sckMode (st : Status) (s : State) : (raiseStatus st s).sckMode = s.sckMode := rfl
@[simp] theorem raiseStatus_doutMode (st : Status) (s : State) : (raiseStatus st s).doutMode = s.doutMode := rfl
@[simp] theorem raiseStatus_sck (st : Status) (s : State) : (raiseStatus st s).sck = s.sck := rfl
@[simp] theorem raiseStatus_doutDrive (st : Status) (s : State) : (raiseStatus st s).doutDrive = s.doutDrive := rfl
@[simp] theorem raiseStatus_doutFloat (st : Status) (s : State) : (raiseStatus st s).doutFloat = s.doutFloat := rfl
@[simp] theorem raiseStatus_dout (st : Status) (s : State) : (raiseStatus st s).dout = s.dout := rfl
@[simp] theorem raiseStatus_sensor (st : Status) (s : State) : (raiseStatus st s).sensor = s.sensor := rfl
@[simp] theorem raiseStatus_host (st : Status) (s : State) : (raiseStatus st s).host = s.host := rfl
@[simp] theorem raiseStatus_trace (st : Status) (s : State) : (raiseStatus st s).trace = s.trace := rfl
@[simp] theorem raiseStatus_turns (st : Status) (s : State) : (raiseStatus st s).turns = s.turns := rfl
@[simp] theorem raiseStatus_stream (st : Status) (s : State) : (raiseStatus st s).stream = s.stream := rfl
@[simp] theorem raiseStatus_draws (st : Status) (s : State) : (raiseStatus st s).draws = s.draws := rfl

/-! ### raiseIo -/

@[simp] theorem raiseIo_cfg (s : State) : (raiseIo s).cfg = s.cfg := rfl
@[simp] theorem raiseIo_init (s : State) : (raiseIo s).init = s.init := rfl
@[simp] theorem raiseIo_sel (s : State) : (raiseIo s).sel = s.sel := rfl
@[simp] theorem raiseIo_asleep (s : State) : (raiseIo s).asleep = s.asleep := rfl
@[simp] theorem raiseIo_busy (s : State) : (raiseIo s).busy = false := rfl
@[simp] theorem raiseIo_err (s : State) : (raiseIo s).err = .ioError := rfl
@[simp] theorem raiseIo_valid (s : State) : (raiseIo s).valid = if s.op == .read then false else s.valid := by
  cases h : s.op == .read <;> simp [raiseIo, raiseStatus, loseSensor, complete, h]
@[simp] theorem raiseIo_ovr (s : State) : (raiseIo s).ovr = s.ovr := rfl
@[simp] theorem raiseIo_result (s : State) : (raiseIo s).result = s.result := rfl
@[simp] theorem raiseIo_arg (s : State) : (raiseIo s).arg = s.arg := rfl
@[simp] theorem raiseIo_acc (s : State) : (raiseIo s).acc = s.acc := rfl
@[simp] theorem raiseIo_bit (s : State) : (raiseIo s).bit = s.bit := rfl
@[simp] theorem raiseIo_trail (s : State) : (raiseIo s).trail = s.trail := rfl
@[simp] theorem raiseIo_op (s : State) : (raiseIo s).op = .none := rfl
@[simp] theorem raiseIo_opnd (s : State) : (raiseIo s).opnd = s.opnd := rfl
@[simp] theorem raiseIo_pp (s : State) : (raiseIo s).pp = .idle := rfl
@[simp] theorem raiseIo_t0 (s : State) : (raiseIo s).t0 = s.t0 := rfl
@[simp] theorem raiseIo_tmo (s : State) : (raiseIo s).tmo = s.tmo := rfl
@[simp] theorem raiseIo_due (s : State) : (raiseIo s).due = s.due := rfl
@[simp] theorem raiseIo_now (s : State) : (raiseIo s).now = s.now := rfl
@[simp] theorem raiseIo_sckMode (s : State) : (raiseIo s).sckMode = s.sckMode := rfl
@[simp] theorem raiseIo_doutMode (s : State) : (raiseIo s).doutMode = s.doutMode := rfl
@[simp] theorem raiseIo_sck (s : State) : (raiseIo s).sck = s.sck := rfl
@[simp] theorem raiseIo_doutDrive (s : State) : (raiseIo s).doutDrive = s.doutDrive := rfl
@[simp] theorem raiseIo_doutFloat (s : State) : (raiseIo s).doutFloat = s.doutFloat := rfl
@[simp] theorem raiseIo_dout (s : State) : (raiseIo s).dout = s.dout := rfl
@[simp] theorem raiseIo_host (s : State) : (raiseIo s).host = s.host := rfl
@[simp] theorem raiseIo_trace (s : State) : (raiseIo s).trace = s.trace := rfl
@[simp] theorem raiseIo_turns (s : State) : (raiseIo s).turns = s.turns := rfl
@[simp] theorem raiseIo_stream (s : State) : (raiseIo s).stream = s.stream := rfl
@[simp] theorem raiseIo_draws (s : State) : (raiseIo s).draws = s.draws := rfl

/-! ### resetBlock -/

@[simp] theorem resetBlock_cfg (s : State) : (resetBlock s).cfg = s.cfg := rfl
@[simp] theorem resetBlock_init (s : State) : (resetBlock s).init = false := rfl
@[simp] theorem resetBlock_sel (s : State) : (resetBlock s).sel = 0 := rfl
@[simp] theorem resetBlock_asleep (s : State) : (resetBlock s).asleep = false := rfl
@[simp] theorem resetBlock_busy (s : State) : (resetBlock s).busy = false := rfl
@[simp] theorem resetBlock_err (s : State) : (resetBlock s).err = .ok := rfl
@[simp] theorem resetBlock_valid (s : State) : (resetBlock s).valid = false := rfl
@[simp] theorem resetBlock_ovr (s : State) : (resetBlock s).ovr = false := rfl
@[simp] theorem resetBlock_result (s : State) : (resetBlock s).result = 0 := rfl
@[simp] theorem resetBlock_arg (s : State) : (resetBlock s).arg = 0 := rfl
@[simp] theorem resetBlock_acc (s : State) : (resetBlock s).acc = 0 := rfl
@[simp] theorem resetBlock_bit (s : State) : (resetBlock s).bit = 0 := rfl
@[simp] theorem resetBlock_trail (s : State) : (resetBlock s).trail = 0 := rfl
@[simp] theorem resetBlock_op (s : State) : (resetBlock s).op = .none := rfl
@[simp] theorem resetBlock_opnd (s : State) : (resetBlock s).opnd = 0 := rfl
@[simp] theorem resetBlock_pp (s : State) : (resetBlock s).pp = .idle := rfl
@[simp] theorem resetBlock_t0 (s : State) : (resetBlock s).t0 = 0 := rfl
@[simp] theorem resetBlock_tmo (s : State) : (resetBlock s).tmo = 0 := rfl
@[simp] theorem resetBlock_due (s : State) : (resetBlock s).due = 0 := rfl
@[simp] theorem resetBlock_now (s : State) : (resetBlock s).now = s.cfg.now0 := rfl
@[simp] theorem resetBlock_sckMode (s : State) : (resetBlock s).sckMode = .unconfigured := rfl
@[simp] theorem resetBlock_doutMode (s : State) : (resetBlock s).doutMode = .unconfigured := rfl
@[simp] theorem resetBlock_sck (s : State) : (resetBlock s).sck = s.sck := rfl
@[simp] theorem resetBlock_doutDrive (s : State) : (resetBlock s).doutDrive = s.doutDrive := rfl
@[simp] theorem resetBlock_doutFloat (s : State) : (resetBlock s).doutFloat = s.dout := rfl
@[simp] theorem resetBlock_dout (s : State) : (resetBlock s).dout = s.dout := by
  cases h : s.doutDrive <;> simp [State.dout, resetBlock, h]
@[simp] theorem resetBlock_host (s : State) : (resetBlock s).host = s.host := rfl
@[simp] theorem resetBlock_trace (s : State) : (resetBlock s).trace = s.trace := rfl
@[simp] theorem resetBlock_turns (s : State) : (resetBlock s).turns = s.turns := rfl
@[simp] theorem resetBlock_stream (s : State) : (resetBlock s).stream = s.stream := rfl
@[simp] theorem resetBlock_draws (s : State) : (resetBlock s).draws = s.draws := rfl

end Sys2Proof.Machine
end

