-- ==== Sys2Proof/Laws/Ops.lean ====
section
/-! SUPPORT. One lemma for each shared operation that says everything it can do, and the small facts about levels and
ticks that proofs about them need. -/

namespace Sys2Proof.Machine

/-- The ranges of 00_scope.md R9 and R10. -/
theorem legal_iff (c : Config) :
    c.legal = true ↔ (1 ≤ c.tHighUs ∧ c.tHighUs ≤ 50) ∧ (1 ≤ c.tLowUs ∧ c.tLowUs < 2 ^ 32)
      ∧ (61 ≤ c.tSleepUs ∧ c.tSleepUs < 2 ^ 32) ∧ (1 ≤ c.tSettleMs ∧ c.tSettleMs < 2 ^ 32)
      ∧ (1 ≤ c.tPollUs ∧ c.tPollUs < 2 ^ 32) ∧ (100 ≤ c.tReadTimeoutMs ∧ c.tReadTimeoutMs ≤ 1000)
      ∧ 1 ≤ c.nInstances := by
  simp only [Config.legal, Config.inRange, Config.maxParam, Bool.and_eq_true, decide_eq_true_eq]
  norm_num
  omega

/-- A level is 0 or 1. -/
theorem level_cases (l : Level) : l = 0 ∨ l = 1 := by
  revert l; decide

/-- The DOUT level by who drives it (20_memory.md R60). -/
theorem dout_driven (s : State) (l : Level) (h : s.doutDrive = some l) : s.dout = l := by
  simp [State.dout, h]

theorem dout_pulledUp (s : State) (h : s.doutDrive = none) (hm : s.doutMode = .inputPullup) : s.dout = 1 := by
  simp [State.dout, h, hm]

/-- The level depends on nothing else. -/
theorem dout_congr (s t : State) (h : t.doutDrive = s.doutDrive) (hm : t.doutMode = s.doutMode)
    (hf : t.doutFloat = s.doutFloat) : t.dout = s.dout := by
  simp [State.dout, h, hm, hf]

/-- PinCfg(SCK): a failed one changes nothing, and a successful one drives SCK low and powers the sensor up. -/
theorem pinCfgSck_cases (e : Bool) (s : State) :
    (pinFails e s = true ∧ pinCfgSck e s = (s, false))
      ∨ (pinFails e s = false ∧ pinCfgSck e s = ({ powerUpSensor s.sensor (driveSck 0 s) with sckMode := .output }, true)) := by
  cases h : pinFails e s <;> simp [pinCfgSck, h]

/-- PinCfg(DOUT): a failed one changes nothing, and a successful one configures DOUT, the second of the two lines. -/
theorem pinCfgDout_cases (e : Bool) (s : State) :
    (pinFails e s = true ∧ pinCfgDout e s = (s, false))
      ∨ (pinFails e s = false ∧ pinCfgDout e s
          = ({ s with doutMode := .inputPullup, sensor := s.sensor.configured }, true)) := by
  cases h : pinFails e s <;> simp [pinCfgDout, h]

/-- PinSet(SCK, l): a failed one leaves SCK at a free level, and a successful one drives it. -/
theorem pinSetSck_cases (l : Level) (e : Bool) (s : State) :
    (pinFails e s = true
        ∧ pinSetSck l e s = ({ driveSck (Config.freeLevel s.stream s.draws) s with draws := s.draws + 1 }, false))
      ∨ (pinFails e s = false ∧ pinSetSck l e s = (driveSck l s, true)) := by
  cases h : pinFails e s <;> simp [pinSetSck, h]

/-- PinGet(DOUT): err, or the level of the line. -/
theorem pinGetDout_cases (e : Bool) (s : State) :
    (pinFails e s = true ∧ pinGetDout e s = none) ∨ (pinFails e s = false ∧ pinGetDout e s = some s.dout) := by
  cases h : pinFails e s <;> simp [pinGetDout, h]

/-- An infallible pin does not fail. -/
@[simp] theorem pinFails_false (s : State) : pinFails false s = false := rfl

/-- `try`: the failing branch on err, the other one on ok. -/
@[simp] theorem tryPin_false (s : State) (e k : State → State) : tryPin (s, false) e k = e s := rfl

@[simp] theorem tryPin_true (s : State) (e k : State → State) : tryPin (s, true) e k = k s := rfl

/-- The write of a command word: dropped while a command runs, accepted otherwise. -/
theorem cmdWrite_cases (a : State → State) (s : State) :
    (s.busy = true ∧ cmdWrite a s = .next (dropWord s))
      ∨ (s.busy = false ∧ cmdWrite a s = .next (a (acceptUpdate s))) := by
  cases h : s.busy <;> simp [cmdWrite, h]

/-- An engine event is enabled exactly as 20_memory.md R59 (b) says. -/
theorem engineEnabled_iff (s : State) :
    s.engineEnabled = true ↔ s.busy = true ∧ s.pp ≠ .idle ∧ (s.pp.isDelay = true → s.now = s.due) := by
  simp only [State.engineEnabled, Bool.and_eq_true, bne_iff_ne, ne_eq, Bool.or_eq_true, Bool.not_eq_true',
    beq_iff_eq]
  constructor
  · rintro ⟨⟨hb, hp⟩, hd⟩
    exact ⟨hb, hp, fun h => by simpa [h] using hd⟩
  · rintro ⟨hb, hp, hd⟩
    cases h : s.pp.isDelay <;> simp_all

/-- SCK driven low: the sensor sees a falling edge exactly when SCK was high. -/
theorem driveSck_low_sensor (s : State) :
    (driveSck 0 s).sensor = if s.sck = 1 then { s.sensor.fall s.cfg with highFor := 0 } else s.sensor := by
  rcases level_cases s.sck with h | h <;> simp [driveSck, h]

/-- SCK driven high: a rising edge only starts the count of high ticks anew. -/
theorem driveSck_high_sensor (s : State) :
    (driveSck 1 s).sensor = if s.sck = 0 then { s.sensor with highFor := 0 } else s.sensor := by
  rcases level_cases s.sck with h | h <;> simp [driveSck, h]

/-- A pulse belongs to a conversion's read exactly when one is ready or being read. -/
@[simp] theorem Offer.pulse_eq_read (o : Offer) : o.pulse = .read ↔ o = .ready ∨ o = .read := by
  cases o <;> decide

/-- After a pulse, and after a power-down and power-up, no conversion is ready. -/
@[simp] theorem Offer.pulse_ne_ready (o : Offer) : o.pulse ≠ .ready := by cases o <;> decide

@[simp] theorem Offer.powerCycle_ne_ready (o : Offer) : o.powerCycle ≠ .ready := by cases o <;> decide

/-- After a power-down and power-up no conversion is being read. -/
@[simp] theorem Offer.powerCycle_ne_read (o : Offer) : o.powerCycle ≠ .read := by cases o <;> decide

/-- After a pulse, and from a read over a power-down and power-up, DOUT stays a draw (20_memory.md R67). -/
@[simp] theorem Offer.pulse_ne_none (o : Offer) : o.pulse ≠ .none := by cases o <;> decide

@[simp] theorem Offer.powerCycle_eq_none (o : Offer) : o.powerCycle = .none ↔ o = .none ∨ o = .ready := by
  cases o <;> decide

/-- After a reset the sensor's state is not known (70_reset_and_hazards.md R136, R137). -/
@[simp] theorem Sensor.forget_known (x : Sensor) : x.forget.known = false := by
  cases h : x.view <;> simp [Sensor.forget, Sensor.known, View.afterReset, h]

@[simp] theorem Sensor.lose_known (x : Sensor) : x.lose.known = false := rfl

@[simp] theorem resetBlock_known (s : State) : (resetBlock s).sensor.known = false := by
  cases h : s.busy <;> simp [resetBlock, h]

/-- Once both lines are configured it is known, unless it waits for the recovery of R144. -/
@[simp] theorem Sensor.configured_known (x : Sensor) : x.configured.known = true ↔ x.view ≠ .untilRecovery := by
  cases h : x.view <;> simp [Sensor.configured, Sensor.known, View.afterInit, h]

/-- A tick changes neither what the sensor has converted nor what it will convert. -/
theorem Sensor.tick_same (l : Level) (x : Sensor) :
    (x.tick l).offer = x.offer ∧ (x.tick l).code = x.code ∧ (x.tick l).codeSel = x.codeSel
      ∧ (x.tick l).nextSel = x.nextSel ∧ (x.tick l).pulses = x.pulses ∧ (x.tick l).view = x.view
      ∧ (x.tick l).settle = x.settle - 1 := by
  unfold Sensor.tick; split <;> simp

end Sys2Proof.Machine
end

