-- ==== Sys2Proof/Laws/Engine.lean ====
section
/-! SUPPORT. What an engine event does to each field of the state, said once for all program points. -/

namespace Sys2Proof.Machine

/-- A field that both branches of a `try` leave at one value has that value. -/
theorem tryPin_field {α : Type} (f : State → α) (v : α) (r : State × Bool) (e k : State → State)
    (he : f (e r.1) = v) (hk : f (k r.1) = v) : f (tryPin r e k) = v := by
  unfold tryPin; split <;> assumption

/-- A field that every way out of a ready sample leaves at one value has that value. -/
theorem readySample_field {α : Type} (f : State → α) (v : α) (b : Bool) (e r : State → State) (p : Point) (s : State)
    (he : f (e s) = v) (hr : f (r s) = v) (ht : f (raiseStatus .notReady s) = v)
    (hp : f (holdAt p s.cfg.tPollUs s) = v) : f (readySample b e r p s) = v := by
  unfold readySample
  split
  · exact he
  · split
    · exact hr
    · split <;> assumption

/-- The fields that the pin primitives leave alone. -/
theorem pinCfgSck_field {α : Type} (f : State → α) (b : Bool) (s : State)
    (h : f { powerUpSensor s.sensor (driveSck 0 s) with sckMode := .output } = f s) : f (pinCfgSck b s).1 = f s := by
  unfold pinCfgSck; split
  · rfl
  · exact h

theorem pinCfgDout_field {α : Type} (f : State → α) (b : Bool) (s : State)
    (h : f { s with doutMode := .inputPullup, sensor := s.sensor.configured } = f s) : f (pinCfgDout b s).1 = f s := by
  unfold pinCfgDout; split
  · rfl
  · exact h

theorem pinSetSck_field {α : Type} (f : State → α) (l : Level) (b : Bool) (s : State)
    (h : ∀ l d, f { driveSck l s with draws := d } = f s) : f (pinSetSck l b s).1 = f s := by
  unfold pinSetSck; split
  · exact h _ _
  · exact h l s.draws

/-- Every engine event leaves `f` alone when the updates it is built from do. -/
theorem engineEvent_field {α : Type} (f : State → α) (e : Bool) (s : State)
    (hc : ∀ u, f { powerUpSensor u.sensor (driveSck 0 u) with sckMode := .output } = f u)
    (hd : s.pp = .iCfgDout → ∀ u, f { u with doutMode := .inputPullup, sensor := u.sensor.configured } = f u)
    (hs : ∀ l d u, f { driveSck l u with draws := d } = f u)
    (hcm : ∀ b st u, f (complete b st u) = f u) (hl : ∀ u, f (loseSensor u) = f u)
    (hw : ∀ x u, f (wakeSensor x u) = f u) (hp : ∀ p u, f (goTo p u) = f u)
    (hh : ∀ p d u, f (holdAt p d u) = f u)
    (hi : s.pp = .iCommit → ∀ u, f { u with sel := u.opnd, init := true, asleep := false } = f u)
    (hw0 : ∀ u, f { u with acc := 0, bit := 0, trail := 0 } = f u)
    (hsh : s.pp = .dSample → ∀ r u, f { u with acc := shiftIn u.acc r, bit := u.bit + 1 } = f u)
    (htr : s.pp = .tFall → ∀ u, f { u with trail := u.trail + 1 } = f u)
    (hr : s.pp = .rCommit → ∀ u, f { u with result := sext32 u.acc, valid := true } = f u)
    (hsl : s.pp = .sCommit → ∀ u, f { u with asleep := true } = f u)
    (hk : s.pp = .kCommit → ∀ u, f { u with asleep := false } = f u) :
    f (engineEvent e s) = f s := by
  have hio : ∀ u, f (raiseIo u) = f u := fun u => (hl _).trans (hcm _ _ _)
  have hset : ∀ l, f (pinSetSck l e s).1 = f s := fun l => pinSetSck_field f l e s (fun l d => hs l d s)
  unfold engineEvent
  split <;> rename_i hpp
  · rfl
  · exact tryPin_field f _ _ _ _ ((hcm _ _ _).trans (pinCfgSck_field f e s (hc s)))
      ((hp _ _).trans (pinCfgSck_field f e s (hc s)))
  · exact tryPin_field f _ _ _ _ ((hcm _ _ _).trans (pinCfgDout_field f e s (hd hpp s)))
      ((hh _ _ _).trans (pinCfgDout_field f e s (hd hpp s)))
  · exact hp _ _
  · exact (hcm _ _ _).trans (hi hpp s)
  · exact readySample_field f _ _ _ _ _ _ (hio _) (hcm _ _ _) (hcm _ _ _) (hh _ _ _)
  · exact hp _ _
  · exact readySample_field f _ _ _ _ _ _ (hio _) ((hp _ _).trans (hw0 s)) (hcm _ _ _) (hh _ _ _)
  · exact hp _ _
  · exact tryPin_field f _ _ _ _ ((hio _).trans (hset 1)) ((hh _ _ _).trans (hset 1))
  · exact hp _ _
  · unfold pointDSample
    split
    · exact hio _
    · exact (hp _ _).trans (hsh hpp _ s)
  · exact tryPin_field f _ _ _ _ ((hio _).trans (hset 0)) ((hh _ _ _).trans (hset 0))
  · exact hp _ _
  · exact tryPin_field f _ _ _ _ ((hio _).trans (hset 1)) ((hh _ _ _).trans (hset 1))
  · exact hp _ _
  · exact tryPin_field f _ _ _ _ ((hio _).trans (hset 0))
      ((hh _ _ _).trans ((htr hpp _).trans (hset 0)))
  · exact hp _ _
  · exact (hcm _ _ _).trans (hr hpp s)
  · exact tryPin_field f _ _ _ _ ((hio _).trans (hset 1)) ((hh _ _ _).trans (hset 1))
  · exact hp _ _
  · exact (hcm _ _ _).trans (hsl hpp s)
  · exact tryPin_field f _ _ _ _ ((hio _).trans (hset 0))
      ((hh _ _ _).trans ((hw _ _).trans (hset 0)))
  · exact hp _ _
  · exact (hcm _ _ _).trans (hk hpp s)

@[simp] theorem engineEvent_cfg (e : Bool) (s : State) : (engineEvent e s).cfg = s.cfg := by
  apply engineEvent_field (·.cfg) <;> intros <;> rfl

@[simp] theorem engineEvent_ovr (e : Bool) (s : State) : (engineEvent e s).ovr = s.ovr := by
  apply engineEvent_field (·.ovr) <;> intros <;> rfl

@[simp] theorem engineEvent_arg (e : Bool) (s : State) : (engineEvent e s).arg = s.arg := by
  apply engineEvent_field (·.arg) <;> intros <;> rfl

@[simp] theorem engineEvent_opnd (e : Bool) (s : State) : (engineEvent e s).opnd = s.opnd := by
  apply engineEvent_field (·.opnd) <;> intros <;> rfl

@[simp] theorem engineEvent_tmo (e : Bool) (s : State) : (engineEvent e s).tmo = s.tmo := by
  apply engineEvent_field (·.tmo) <;> intros <;> rfl

@[simp] theorem engineEvent_t0 (e : Bool) (s : State) : (engineEvent e s).t0 = s.t0 := by
  apply engineEvent_field (·.t0) <;> intros <;> rfl

@[simp] theorem engineEvent_now (e : Bool) (s : State) : (engineEvent e s).now = s.now := by
  apply engineEvent_field (·.now) <;> intros <;> rfl

@[simp] theorem engineEvent_doutDrive (e : Bool) (s : State) : (engineEvent e s).doutDrive = s.doutDrive := by
  apply engineEvent_field (·.doutDrive) <;> intros <;> rfl

@[simp] theorem engineEvent_doutFloat (e : Bool) (s : State) : (engineEvent e s).doutFloat = s.doutFloat := by
  apply engineEvent_field (·.doutFloat) <;> intros <;> rfl

/-- The DOUT level: of the engine's events only PinCfg(DOUT) can change it, by its pull-up (20_memory.md R60). -/
theorem engineEvent_dout (e : Bool) (s : State) (h : s.pp ≠ .iCfgDout) : (engineEvent e s).dout = s.dout := by
  apply engineEvent_field (·.dout) <;> intros <;> first | rfl | exact absurd ‹_› h

@[simp] theorem engineEvent_host (e : Bool) (s : State) : (engineEvent e s).host = s.host := by
  apply engineEvent_field (·.host) <;> intros <;> rfl

@[simp] theorem engineEvent_trace (e : Bool) (s : State) : (engineEvent e s).trace = s.trace := by
  apply engineEvent_field (·.trace) <;> intros <;> rfl

@[simp] theorem engineEvent_stream (e : Bool) (s : State) : (engineEvent e s).stream = s.stream := by
  apply engineEvent_field (·.stream) <;> intros <;> rfl

@[simp] theorem engineEvent_turns (e : Bool) (s : State) : (engineEvent e s).turns = s.turns := by
  apply engineEvent_field (·.turns) <;> intros <;> rfl

/-- s.init, s.sel: only INIT's commit writes them (10_state.md R22, R23). -/
theorem engineEvent_init (e : Bool) (s : State) : (engineEvent e s).init = if s.pp = .iCommit then true else s.init := by
  split
  · rename_i h; simp [engineEvent, h, pointICommit]
  · rename_i h; apply engineEvent_field (·.init) <;> intros <;> first | rfl | exact absurd ‹_› h

theorem engineEvent_sel (e : Bool) (s : State) : (engineEvent e s).sel = if s.pp = .iCommit then s.opnd else s.sel := by
  split
  · rename_i h; simp [engineEvent, h, pointICommit]
  · rename_i h; apply engineEvent_field (·.sel) <;> intros <;> first | rfl | exact absurd ‹_› h

/-- s.result: only READ's commit writes it (10_state.md R25). -/
theorem engineEvent_result (e : Bool) (s : State) :
    (engineEvent e s).result = if s.pp = .rCommit then sext32 s.acc else s.result := by
  split
  · rename_i h; simp [engineEvent, h, pointRCommit]
  · rename_i h; apply engineEvent_field (·.result) <;> intros <;> first | rfl | exact absurd ‹_› h

/-- s.asleep: only the commits of SLEEP, WAKE and INIT write it (10_state.md R24). -/
theorem engineEvent_asleep (e : Bool) (s : State) :
    (engineEvent e s).asleep =
      if s.pp = .sCommit then true else if s.pp = .kCommit ∨ s.pp = .iCommit then false else s.asleep := by
  split
  · rename_i h; simp [engineEvent, h, pointSCommit]
  · rename_i h; split
    · rename_i h'; rcases h' with h' | h' <;> simp [engineEvent, h', pointKCommit, pointICommit]
    · rename_i h'
      apply engineEvent_field (·.asleep) <;> intros <;>
        first | rfl | exact absurd ‹_› h | exact absurd (Or.inl ‹_›) h' | exact absurd (Or.inr ‹_›) h'

end Sys2Proof.Machine
end

