-- ==== Sys2Proof/Laws/PerInstr.lean ====
section
/-! SUPPORT. Statements about every instruction as syntax, one lemma per constructor. The family `OpcodeRow`: the word
of a well-formed instruction is one of its row of spec/opcode_table.json. -/

namespace Sys2Proof.Laws.OpcodeRow

/-- A row of the opcode table: the bits of `mask` are those of `value`. -/
structure Row where
  value : Word
  mask : Word
deriving DecidableEq, Repr

/-- The row has the word. -/
def Row.has (r : Row) (w : Word) : Bool := w &&& r.mask == r.value

/-- The row of each instruction, as the table gives it; the last row has every word. -/
def rowOf : Instr → Row
  | .init _ => ⟨0x00000001, 0xFFFFFFCF⟩
  | .waitReady => ⟨0x00000002, 0xFFFFFFFF⟩
  | .read => ⟨0x00000003, 0xFFFFFFFF⟩
  | .sleep => ⟨0x00000004, 0xFFFFFFFF⟩
  | .wake => ⟨0x00000005, 0xFFFFFFFF⟩
  | .setGain _ => ⟨0x00000006, 0xFFFFFFCF⟩
  | .invalidInit => ⟨0x00000031, 0xFFFFFFFF⟩
  | .invalidSetGain => ⟨0x00000036, 0xFFFFFFFF⟩
  | .illegal _ => ⟨0x00000000, 0x00000000⟩

/-- The rows of single words that lie within the rows of INIT and SET_GAIN: a decoder takes the row with the most mask
bits set. -/
def moreSpecific : List Row := [rowOf .invalidInit, rowOf .invalidSetGain]

/-- The rows that name a command. -/
def commandRows : List Row := [rowOf (.init 0), rowOf .waitReady, rowOf .read, rowOf .sleep, rowOf .wake,
  rowOf (.setGain 0)]

/-- A well-formed instruction's word is in its row and in none that comes before it: an INIT's and a SET_GAIN's word is
in no more specific row, and an illegal word in no other row at all (30_encoding.md R73, R77, R78). -/
def Statement (i : Instr) : Prop :=
  i.wf = true → (rowOf i).has (encode i) = true ∧
    match i with
    | .init _ => moreSpecific.any (·.has (encode i)) = false
    | .setGain _ => moreSpecific.any (·.has (encode i)) = false
    | .illegal w => (commandRows ++ moreSpecific).any (·.has w) = false
    | _ => True

theorem init (sel : Sel) : Statement (.init sel) := by
  revert sel; unfold Statement; decide

theorem waitReady : Statement .waitReady := by
  unfold Statement; decide

theorem read : Statement .read := by
  unfold Statement; decide

theorem sleep : Statement .sleep := by
  unfold Statement; decide

theorem wake : Statement .wake := by
  unfold Statement; decide

theorem setGain (sel : Sel) : Statement (.setGain sel) := by
  revert sel; unfold Statement; decide

theorem invalidInit : Statement .invalidInit := by
  unfold Statement; decide

theorem invalidSetGain : Statement .invalidSetGain := by
  unfold Statement; decide

/-- A word of a row whose mask leaves SEL open is its value with that SEL. -/
theorem open_sel (w v : Word) (h : w &&& 0xFFFFFFCF = v) : w = v ||| (w &&& 0x30#32) := by
  rw [← h, ← BitVec.and_or_distrib_left, show (0xFFFFFFCF ||| 0x30#32 : Word) = BitVec.allOnes 32 by decide,
    BitVec.and_allOnes]

/-- SEL in place, one of its four values. -/
theorem sel_bits (w : Word) : w &&& 0x30#32 ∈ [0x00#32, 0x10#32, 0x20#32, 0x30#32] := by
  have h : w &&& 0x30#32 = ((w.extractLsb' 4 2).setWidth 32) <<< 4 := by
    apply BitVec.eq_of_getLsbD_eq
    intro i hi
    have key : ∀ j : Fin 32, (0x30#32).getLsbD j = (decide (4 ≤ j.val) && decide (j.val - 4 < 2)) := by decide
    have := key ⟨i, hi⟩
    simp only [BitVec.getLsbD_and, BitVec.getLsbD_shiftLeft, BitVec.getLsbD_setWidth, BitVec.getLsbD_extractLsb']
    rw [this]
    by_cases h4 : 4 ≤ i
    · have hle : ¬ i < 4 := by omega
      by_cases h2 : i - 4 < 2
      · simp [h4, hle, h2, hi, show i - 4 < 32 by omega]
      · simp [h4, hle, h2]
    · simp [h4, show i < 4 by omega]
  rw [h]
  generalize w.extractLsb' 4 2 = x
  revert x; decide

theorem illegal (w : Word) : Statement (.illegal w) := by
  intro h
  refine ⟨by simp [Row.has, rowOf], ?_⟩
  simp only [Instr.wf, Bool.not_eq_true', List.contains_eq_mem, decide_eq_false_iff_not, knownWords,
    List.mem_cons, List.not_mem_nil, or_false, not_or] at h
  obtain ⟨a1, a2, a3, b, c, d, e, f1, f2, f3, a4, f4⟩ := h
  have allOnes : (0xFFFFFFFF : Word) = BitVec.allOnes 32 := by decide
  have hopen : ∀ v : Word, w &&& 0xFFFFFFCF = v →
      w = v ||| 0x00 ∨ w = v ||| 0x10 ∨ w = v ||| 0x20 ∨ w = v ||| 0x30 := by
    intro v hv
    have hw := open_sel w v hv
    have hs := sel_bits w
    simp only [List.mem_cons, List.not_mem_nil, or_false] at hs
    rcases hs with hs | hs | hs | hs <;> rw [hs] at hw <;> simp [hw]
  have h1 : ¬ w &&& 0xFFFFFFCF = 0x00000001 := by
    intro hv; have := hopen _ hv; simp at this; simp_all
  have h6 : ¬ w &&& 0xFFFFFFCF = 0x00000006 := by
    intro hv; have := hopen _ hv; simp at this; simp_all
  simp only [commandRows, moreSpecific, rowOf, Row.has, List.any_cons, List.any_nil, List.cons_append,
    List.nil_append, allOnes, BitVec.and_allOnes, Bool.or_eq_false_iff, beq_eq_false_iff_ne, ne_eq, and_true]
  exact ⟨h1, b, c, d, e, h6, a4, f4⟩

end Sys2Proof.Laws.OpcodeRow
end

