-- ==== Sys2Proof/Laws/Step.lean ====
section
/-! SUPPORT. What the system step can do, said once: later proofs cite these lemmas instead of unfolding the step. -/

namespace Sys2Proof.Machine

/-- Every meaning answers a next state. -/
theorem exec_next (i : Instr) (s : State) : ∃ t, exec i s = .next t := by
  cases i <;> exact ⟨_, rfl⟩

/-- Every move answers a next state. -/
theorem applyMove_next (m : Move) (s : State) : ∃ t, applyMove m s = .next t := by
  cases m with
  | host =>
    simp only [applyMove, hostAccess]
    split
    · rename_i r v h _
      cases r with
      | cmd => exact exec_next _ _
      | arg => exact ⟨_, rfl⟩
      | status => exact ⟨_, rfl⟩
      | result => exact ⟨_, rfl⟩
    all_goals exact ⟨_, rfl⟩
  | engine e => exact ⟨_, rfl⟩
  | sensor e => exact ⟨_, rfl⟩
  | tick => exact ⟨_, rfl⟩
  | reset => exact ⟨_, rfl⟩

/-- Taking a turn off the list changes nothing else but the count of free values. -/
theorem nextMove_state (s : State) :
    ∃ ts d, (nextMove s).2 = { s with turns := ts, draws := d } := by
  unfold nextMove freeBlockMove
  split <;> (try split) <;> exact ⟨_, _, rfl⟩

/-- An engine event is the next move only when one is enabled, and a time step only when none is (20_memory.md R59). -/
theorem nextMove_block (s : State) :
    (∀ e, (nextMove s).1 = .engine e → s.engineEnabled = true)
      ∧ ((nextMove s).1 = .tick → s.engineEnabled = false) := by
  have key : ∀ (e : Bool) (ts : List Turn),
      (∀ e', blockMove e { s with turns := ts } = .engine e' → s.engineEnabled = true)
        ∧ (blockMove e { s with turns := ts } = .tick → s.engineEnabled = false) := by
    intro e ts
    have : State.engineEnabled { s with turns := ts } = s.engineEnabled := rfl
    unfold blockMove
    rw [this]
    cases h : s.engineEnabled <;> simp
  unfold nextMove freeBlockMove
  split
  · split
    · simp
    · exact key _ _
  · simp
  · rename_i e ts _
    exact key e s.turns
  · simp
  · split
    · simp
    · exact key _ s.turns

/-- The host moves next only when it has an access to make. -/
theorem nextMove_host (s : State) (h : (nextMove s).1 = .host) : hostHasAccess s.host = true := by
  have hb : ∀ (e : Bool) (u : State), blockMove e u ≠ .host := by
    intro e u; unfold blockMove; split <;> simp
  unfold nextMove freeBlockMove at h
  split at h
  · split at h
    · assumption
    · exact absurd h (hb _ _)
  · simp at h
  · exact absurd h (hb _ _)
  · simp at h
  · split at h
    · rename_i hr
      simp only [Bool.and_eq_true, hostReady] at hr
      exact hr.2.1
    · exact absurd h (hb _ _)

/-- What a host access can do: write CMD, store ARG, or change only the program and its trace. -/
theorem hostAccess_cases (s t : State) (h : hostAccess s = .next t) :
    (∃ w ops, skipIdle s.host = .wr .cmd w :: ops ∧ exec (decode w) { s with host := ops } = .next t)
      ∨ (∃ v ops, t = { s with host := ops, arg := v })
      ∨ (∃ ops tr, t = { s with host := ops, trace := tr }) := by
  unfold hostAccess at h
  split at h
  · rename_i r v ops hs
    cases r with
    | cmd => exact .inl ⟨v, ops, hs, h⟩
    | arg => cases h; exact .inr (.inl ⟨_, _, rfl⟩)
    | status => cases h; exact .inr (.inr ⟨_, s.trace, rfl⟩)
    | result => cases h; exact .inr (.inr ⟨_, s.trace, rfl⟩)
  · cases h; exact .inr (.inr ⟨_, _, rfl⟩)
  · cases h
    split
    · exact .inr (.inr ⟨s.host, s.trace, rfl⟩)
    · exact .inr (.inr ⟨_, _, rfl⟩)
  · cases h; exact .inr (.inr ⟨s.host, s.trace, rfl⟩)
  · cases h; exact .inr (.inr ⟨s.host, s.trace, rfl⟩)

/-- What one step can do (20_memory.md R59): from the state with its turn taken off, a host access, an engine event
that is enabled, a change of DOUT, a time step while no event is enabled, or a reset. -/
theorem step_cases (s t : State) (h : step s = .next t) :
    s.cfg.legal = true ∧ ∃ ts d,
      ((nextMove s).1 = .host ∧ hostAccess { s with turns := ts, draws := d } = .next t)
        ∨ (∃ e, (nextMove s).1 = .engine e ∧ s.engineEnabled = true
          ∧ t = engineEvent e { s with turns := ts, draws := d })
        ∨ (∃ e, (nextMove s).1 = .sensor e ∧ t = sensorMove e { s with turns := ts, draws := d })
        ∨ ((nextMove s).1 = .tick ∧ s.engineEnabled = false ∧ t = timeStep { s with turns := ts, draws := d })
        ∨ ((nextMove s).1 = .reset ∧ t = resetBlock { s with turns := ts, draws := d }) := by
  unfold step systemStep at h
  split at h
  · rename_i hl
    refine ⟨hl, ?_⟩
    obtain ⟨ts, d, hs⟩ := nextMove_state s
    refine ⟨ts, d, ?_⟩
    rw [hs] at h
    obtain ⟨he, ht⟩ := nextMove_block s
    cases hm : (nextMove s).1 with
    | host => rw [hm] at h; exact .inl ⟨rfl, h⟩
    | engine e => rw [hm] at h; cases h; exact .inr (.inl ⟨e, rfl, he e hm, rfl⟩)
    | sensor e => rw [hm] at h; cases h; exact .inr (.inr (.inl ⟨e, rfl, rfl⟩))
    | tick => rw [hm] at h; cases h; exact .inr (.inr (.inr (.inl ⟨rfl, ht hm, rfl⟩)))
    | reset => rw [hm] at h; cases h; exact .inr (.inr (.inr (.inr ⟨rfl, rfl⟩)))
  · cases h

/-- What the write of a command's word can do (60_exceptions.md R119 to R122): it is dropped; or it completes in its
own step, with a status and, for a SET_GAIN, a new selector; or it starts a command at its first point. -/
theorem exec_cases (i : Instr) (s t : State) (h : exec i s = .next t) :
    (s.busy = true ∧ t = dropWord s)
      ∨ (s.busy = false ∧ (∃ st, st ≠ .ok ∧ t = complete (i == .read) st (acceptUpdate s)
          ∧ (i = .read → st = .notInitialized ∨ st = .asleep)))
      ∨ (s.busy = false ∧ s.init = true ∧ ∃ sel, i = .setGain sel ∧
          t = complete false .ok { acceptUpdate s with sel := sel })
      ∨ (s.busy = false ∧ s.init = false ∧ ∃ sel, i = .init sel ∧
          t = startAt .init .iCfgSck { acceptUpdate s with opnd := sel })
      ∨ (s.busy = false ∧ s.init = true ∧ s.asleep = false ∧ i = .waitReady ∧
          t = startAt .waitReady .wSample (startWait (argTimeout s.arg) (acceptUpdate s)))
      ∨ (s.busy = false ∧ s.init = true ∧ s.asleep = false ∧ i = .read ∧
          t = startAt .read .rwSample (startWait (readTimeout s.cfg) (acceptUpdate s)))
      ∨ (s.busy = false ∧ s.init = true ∧ i = .sleep ∧ t = startAt .sleep .sSet (acceptUpdate s))
      ∨ (s.busy = false ∧ s.init = true ∧ i = .wake ∧ t = startAt .wake .kSet (acceptUpdate s)) := by
  rcases Bool.eq_false_or_eq_true s.busy with hb | hb
  · left
    cases i <;>
      simp only [exec, execInit, execWaitReady, execRead, execSleep, execWake, execSetGain, execInvalidInit,
        execInvalidSetGain, execIllegal, cmdWrite, hb, if_true, Host.Outcome.next.injEq] at h <;>
      exact ⟨hb, h.symm⟩
  · right
    rcases Bool.eq_false_or_eq_true s.init with hi | hi <;> rcases Bool.eq_false_or_eq_true s.asleep with ha | ha <;>
      cases i <;>
      simp only [exec, execInit, execWaitReady, execRead, execSleep, execWake, execSetGain, execInvalidInit,
        execInvalidSetGain, execIllegal, cmdWrite, hb, needInit, needAwake, acceptUpdate_init, acceptUpdate_asleep,
        hi, ha, if_true, if_false, Bool.false_eq_true, Host.Outcome.next.injEq] at h <;>
      subst h <;> simp [hb, hi, ha, finish, complete]

end Sys2Proof.Machine
end

