-- ==== Sys2Proof/Laws/Run.lean ====
section
/-! SUPPORT. Runs: how steps chain, what a step at a given turn is, and the run through a whole Delay. -/

namespace Sys2Proof.Machine

/-! ## Steps chain -/

@[simp] theorem runSteps_zero (s : State) : runSteps 0 s = .next s := rfl

theorem core_run_succ (M : Host.Core) (n : Nat) (s : M.State) : M.run (n + 1) s =
    match M.step s with
    | .next t => M.run n t
    | .fault r => .fault r
    | .refused r => .refused r := rfl

/-- A run is its first step and the rest. -/
theorem runSteps_step (n : Nat) (s : State) :
    (∀ t, step s = .next t → runSteps (n + 1) s = runSteps n t)
      ∧ (∀ r, step s = .refused r → runSteps (n + 1) s = .refused r) := by
  refine ⟨fun t h => ?_, fun r h => ?_⟩ <;>
    exact (core_run_succ Sys2Proof.core n s).trans
      (by rw [show Host.Core.step Sys2Proof.core s = _ from h]; rfl)

/-- A run begins with its first step. -/
theorem runSteps_succ (n : Nat) (s t : State) (h : step s = .next t) : runSteps (n + 1) s = runSteps n t :=
  (runSteps_step n s).1 t h

/-- A run of m + n steps is one of m and then one of n. -/
theorem runSteps_add (m n : Nat) (s t : State) (h : runSteps m s = .next t) : runSteps (m + n) s = runSteps n t := by
  induction m generalizing s with
  | zero => cases h; simp
  | succ m ih =>
    rw [show m + 1 + n = m + n + 1 by omega]
    cases hs : step s with
    | next u => rw [runSteps_succ _ _ _ hs] at h ⊢; exact ih u h
    | fault r => cases r
    | refused r => rw [(runSteps_step m s).2 r hs] at h; cases h

/-! ## A step at a given turn -/

/-- A block turn when an engine event is enabled. -/
theorem step_block_event (s : State) (e : Bool) (ts : List Turn) (hl : s.cfg.legal = true)
    (ht : s.turns = .block e :: ts) (he : s.engineEnabled = true) :
    step s = .next (engineEvent e { s with turns := ts }) := by
  simp [step, systemStep, hl, nextMove, ht, blockMove, he, applyMove]

/-- A block turn when none is: time passes. -/
theorem step_block_tick (s : State) (e : Bool) (ts : List Turn) (hl : s.cfg.legal = true)
    (ht : s.turns = .block e :: ts) (he : s.engineEnabled = false) :
    step s = .next (timeStep { s with turns := ts }) := by
  simp [step, systemStep, hl, nextMove, ht, blockMove, he, applyMove]

/-- A sensor turn. -/
theorem step_sensor (s : State) (x : SensorEvent) (ts : List Turn) (hl : s.cfg.legal = true)
    (ht : s.turns = .sensor x :: ts) : step s = .next (sensorMove x { s with turns := ts }) := by
  simp [step, systemStep, hl, nextMove, ht, applyMove]

/-- A running command at a point that is no Delay has its event enabled. -/
theorem enabled_of_point (s : State) (hb : s.busy = true) (hp : s.pp ≠ .idle) (hd : s.pp.isDelay = false) :
    s.engineEnabled = true :=
  (engineEnabled_iff s).2 ⟨hb, hp, fun h => absurd (hd ▸ h) (by decide)⟩

/-- A running command at the end of its Delay has its event enabled. -/
theorem enabled_of_due (s : State) (hb : s.busy = true) (hp : s.pp ≠ .idle) (hd : s.now = s.due) :
    s.engineEnabled = true :=
  (engineEnabled_iff s).2 ⟨hb, hp, fun _ => hd⟩

/-! ## Runs of one command -/

/-- A run of one command goes on with another. -/
theorem commandRun_add {m n : Nat} {s u t : State} (h : commandRun m s u) (h' : commandRun n u t) :
    commandRun (m + n) s t := by
  induction m generalizing s with
  | zero => cases h; simpa using h'
  | succ m ih =>
    obtain ⟨hb, hr, v, hs, hv⟩ := h
    rw [show m + 1 + n = m + n + 1 by omega]
    exact ⟨hb, hr, v, hs, ih hv⟩

/-- One step of a running command. -/
theorem commandRun_one {s t : State} (hb : s.busy = true) (hr : (nextMove s).1 ≠ .reset) (hs : step s = .next t) :
    commandRun 1 s t :=
  ⟨hb, hr, t, hs, rfl⟩

/-- A block turn is no reset. -/
theorem nextMove_block_turn (s : State) (e : Bool) (ts : List Turn) (ht : s.turns = .block e :: ts) :
    (nextMove s).1 ≠ .reset := by
  simp only [nextMove, ht, blockMove]
  split <;> simp

/-- A run of one command is a run. -/
theorem runSteps_of_commandRun {n : Nat} {s t : State} (h : commandRun n s t) : runSteps n s = .next t := by
  induction n generalizing s with
  | zero => cases h; simp
  | succ n ih =>
    obtain ⟨-, -, v, hs, hv⟩ := h
    rw [runSteps_succ _ _ _ hs, ih hv]

/-- What holds at the start of a command's run, of no samples and no line operations, and is kept by every step of it,
holds at its end of all its samples and line operations. -/
theorem commandRun_induction (G : State → List Level → List LineOp → Prop)
    (hstep : ∀ s t S L, s.busy = true → (nextMove s).1 ≠ .reset → step s = .next t → G s S L →
      G t (S ++ stepSamples s) (L ++ stepLineOps s))
    {n : Nat} {s t : State} {S : List Level} {L : List LineOp} (hG : G s S L) (h : commandRun n s t) :
    G t (S ++ samples n s) (L ++ lineTrace n s) := by
  induction n generalizing s S L with
  | zero => cases h; simpa [samples, lineTrace, traceOf] using hG
  | succ n ih =>
    obtain ⟨hb, hr, v, hs, hv⟩ := h
    simpa [samples, lineTrace, traceOf, hs, List.append_assoc] using ih (hstep s v S L hb hr hs hG) hv

/-! ## The run through a Delay -/

/-- `n` time steps. -/
def waited (n : Nat) (s : State) : State := timeStep^[n] s

theorem waited_field {α : Type} (f : State → α) (h : ∀ s, f (timeStep s) = f s) (n : Nat) (s : State) :
    f (waited n s) = f s := by
  induction n generalizing s with
  | zero => rfl
  | succ n ih => exact (ih (timeStep s)).trans (h s)

@[simp] theorem waited_cfg (n : Nat) (s : State) : (waited n s).cfg = s.cfg :=
  waited_field (·.cfg) (fun _ => rfl) n s

@[simp] theorem waited_init (n : Nat) (s : State) : (waited n s).init = s.init :=
  waited_field (·.init) (fun _ => rfl) n s

@[simp] theorem waited_sel (n : Nat) (s : State) : (waited n s).sel = s.sel :=
  waited_field (·.sel) (fun _ => rfl) n s

@[simp] theorem waited_asleep (n : Nat) (s : State) : (waited n s).asleep = s.asleep :=
  waited_field (·.asleep) (fun _ => rfl) n s

@[simp] theorem waited_busy (n : Nat) (s : State) : (waited n s).busy = s.busy :=
  waited_field (·.busy) (fun _ => rfl) n s

@[simp] theorem waited_err (n : Nat) (s : State) : (waited n s).err = s.err :=
  waited_field (·.err) (fun _ => rfl) n s

@[simp] theorem waited_valid (n : Nat) (s : State) : (waited n s).valid = s.valid :=
  waited_field (·.valid) (fun _ => rfl) n s

@[simp] theorem waited_ovr (n : Nat) (s : State) : (waited n s).ovr = s.ovr :=
  waited_field (·.ovr) (fun _ => rfl) n s

@[simp] theorem waited_result (n : Nat) (s : State) : (waited n s).result = s.result :=
  waited_field (·.result) (fun _ => rfl) n s

@[simp] theorem waited_arg (n : Nat) (s : State) : (waited n s).arg = s.arg :=
  waited_field (·.arg) (fun _ => rfl) n s

@[simp] theorem waited_acc (n : Nat) (s : State) : (waited n s).acc = s.acc :=
  waited_field (·.acc) (fun _ => rfl) n s

@[simp] theorem waited_bit (n : Nat) (s : State) : (waited n s).bit = s.bit :=
  waited_field (·.bit) (fun _ => rfl) n s

@[simp] theorem waited_trail (n : Nat) (s : State) : (waited n s).trail = s.trail :=
  waited_field (·.trail) (fun _ => rfl) n s

@[simp] theorem waited_op (n : Nat) (s : State) : (waited n s).op = s.op :=
  waited_field (·.op) (fun _ => rfl) n s

@[simp] theorem waited_opnd (n : Nat) (s : State) : (waited n s).opnd = s.opnd :=
  waited_field (·.opnd) (fun _ => rfl) n s

@[simp] theorem waited_pp (n : Nat) (s : State) : (waited n s).pp = s.pp :=
  waited_field (·.pp) (fun _ => rfl) n s

@[simp] theorem waited_t0 (n : Nat) (s : State) : (waited n s).t0 = s.t0 :=
  waited_field (·.t0) (fun _ => rfl) n s

@[simp] theorem waited_tmo (n : Nat) (s : State) : (waited n s).tmo = s.tmo :=
  waited_field (·.tmo) (fun _ => rfl) n s

@[simp] theorem waited_due (n : Nat) (s : State) : (waited n s).due = s.due :=
  waited_field (·.due) (fun _ => rfl) n s

@[simp] theorem waited_sckMode (n : Nat) (s : State) : (waited n s).sckMode = s.sckMode :=
  waited_field (·.sckMode) (fun _ => rfl) n s

@[simp] theorem waited_doutMode (n : Nat) (s : State) : (waited n s).doutMode = s.doutMode :=
  waited_field (·.doutMode) (fun _ => rfl) n s

@[simp] theorem waited_sck (n : Nat) (s : State) : (waited n s).sck = s.sck :=
  waited_field (·.sck) (fun _ => rfl) n s

@[simp] theorem waited_doutDrive (n : Nat) (s : State) : (waited n s).doutDrive = s.doutDrive :=
  waited_field (·.doutDrive) (fun _ => rfl) n s

@[simp] theorem waited_doutFloat (n : Nat) (s : State) : (waited n s).doutFloat = s.doutFloat :=
  waited_field (·.doutFloat) (fun _ => rfl) n s

@[simp] theorem waited_dout (n : Nat) (s : State) : (waited n s).dout = s.dout :=
  waited_field (·.dout) (fun _ => rfl) n s

@[simp] theorem waited_trace (n : Nat) (s : State) : (waited n s).trace = s.trace :=
  waited_field (·.trace) (fun _ => rfl) n s

@[simp] theorem waited_turns (n : Nat) (s : State) : (waited n s).turns = s.turns :=
  waited_field (·.turns) (fun _ => rfl) n s

@[simp] theorem waited_stream (n : Nat) (s : State) : (waited n s).stream = s.stream :=
  waited_field (·.stream) (fun _ => rfl) n s

@[simp] theorem waited_draws (n : Nat) (s : State) : (waited n s).draws = s.draws :=
  waited_field (·.draws) (fun _ => rfl) n s

/-- `n` time steps add n ticks. -/
@[simp] theorem waited_now (n : Nat) (s : State) : (waited n s).now = s.now + ticks n := by
  induction n generalizing s with
  | zero => simp [waited, ticks]
  | succ n ih =>
    refine (ih (timeStep s)).trans ?_
    simp only [timeStep_now, ticks, BitVec.ofNat_add, BitVec.add_assoc]
    rw [BitVec.add_comm 1]
    rfl

/-- The sensor during `n` ticks. -/
theorem waited_sensor (n : Nat) (s : State) : (waited n s).sensor = (Sensor.tick s.sck)^[n] s.sensor := by
  induction n generalizing s with
  | zero => rfl
  | succ n ih =>
    refine (ih (timeStep s)).trans ?_
    simp [Function.iterate_succ_apply]

/-- With n + 1 ticks of a Delay left no engine event is enabled. -/
theorem disabled_before_due (s : State) (n : Nat) (hd : s.pp.isDelay = true) (hdue : s.due = s.now + ticks (n + 1))
    (hn : n + 1 < 2 ^ 64) : s.engineEnabled = false := by
  rw [Bool.eq_false_iff]
  intro h
  have h' := congrArg BitVec.toNat (((engineEnabled_iff s).1 h).2.2 hd)
  rw [hdue] at h'
  simp only [BitVec.toNat_add, ticks, BitVec.toNat_ofNat] at h'
  have := s.now.isLt
  omega

/-- A tick leaves n of n + 1 ticks. -/
theorem due_after_tick (s : State) (n : Nat) (hdue : s.due = s.now + ticks (n + 1)) :
    s.due = s.now + 1 + ticks n := by
  rw [hdue, BitVec.add_assoc]
  congr 1
  simp only [ticks, BitVec.ofNat_add]
  exact BitVec.add_comm _ _

/-- Through the `n` ticks of a running Delay the block's own moves are time steps (20_memory.md R58). -/
theorem commandRun_delay (n : Nat) (s : State) (ts : List Turn) (hl : s.cfg.legal = true) (hb : s.busy = true)
    (hd : s.pp.isDelay = true) (hdue : s.due = s.now + ticks n) (hn : n < 2 ^ 64)
    (ht : s.turns = quiet n ++ ts) : commandRun n s (waited n { s with turns := ts }) := by
  induction n generalizing s with
  | zero =>
    have h : { s with turns := ts } = s := by
      have : s.turns = ts := by simpa [quiet] using ht
      rw [← this]
    rw [h]; rfl
  | succ n ih =>
    have ht' : s.turns = .block false :: (quiet n ++ ts) := by
      rw [ht]; simp [quiet, List.replicate_succ]
    refine ⟨hb, nextMove_block_turn s _ _ ht', _,
      step_block_tick s false _ hl ht' (disabled_before_due s n hd hdue hn), ?_⟩
    exact ih (timeStep { s with turns := quiet n ++ ts }) hl hb hd (due_after_tick s n hdue) (by omega) rfl

/-- The same, as a run. -/
theorem run_delay (n : Nat) (s : State) (ts : List Turn) (hl : s.cfg.legal = true) (hb : s.busy = true)
    (hd : s.pp.isDelay = true) (hdue : s.due = s.now + ticks n) (hn : n < 2 ^ 64)
    (ht : s.turns = quiet n ++ ts) : runSteps n s = .next (waited n { s with turns := ts }) :=
  runSteps_of_commandRun (commandRun_delay n s ts hl hb hd hdue hn ht)

end Sys2Proof.Machine
end

