-- ==== Sys2Proof/Tests/Slice0.lean ====
section
/-! SUPPORT. The model's own tests. An expected result comes from the spec: the decode table, vectors and worked examples
of 95_test_vectors.md and of the rules named. The theorems `witness_<obligation>` show, for every statement with
hypotheses, concrete states and operands that meet all of them, at the boundaries of its clauses. -/

namespace Sys2Proof.Tests

open Sys2Proof Sys2Proof.Machine

/-! ## Small states -/

/-- The reset state with known line levels. -/
def fresh : State := { State.reset with sck := 0, doutDrive := some 1 }

/-- An initialised, awake, idle engine. -/
def ready : State :=
  { fresh with
    init := true, sckMode := .output, doutMode := .inputPullup, sensor := { Sensor.powerOn with view := .known } }

/-- The next state of an outcome. -/
def nextOf (o : Host.Outcome State Fault Refusal) (s : State) : State :=
  match o with
  | .next t => t
  | .fault _ => s
  | .refused _ => s

/-- The state after one step. -/
def after (s : State) : State := nextOf (step s) s

/-- STATUS right after the write of a word to CMD. -/
def statusAfter (w : Word) (s : State) : Word := statusWord (nextOf (exec (decode w) s) s)

/-- The engine at a program point, with the counters of a READ that is there, its Delay ended and the next move its
own. Before INIT has configured DOUT the sensor is as at power-on. -/
def atPoint (p : Point) : State :=
  { ready with
    busy := true, op := p.op, pp := p, init := p.op != .init, turns := [.block false]
    bit := match p with
      | .dRise | .dHigh | .dSample => 23
      | .dFall | .dLow | .tRise | .tHigh | .tFall | .tLow | .rCommit => 24
      | _ => 0
    trail := match p with
      | .tLow | .rCommit => 1
      | _ => 0
    doutMode := if p = .iCfgSck ∨ p = .iCfgDout then .unconfigured else .inputPullup
    sensor := if p = .iCfgSck ∨ p = .iCfgDout then Sensor.powerOn else ready.sensor }

/-- The sensor has converted 0 and is settled, awake and known. -/
def sensorAt (pulses : Nat) (sel : Option Selector) : Sensor :=
  { ready.sensor with offer := if pulses = 0 then .none else .read, pulses := pulses, codeSel := sel, nextSel := sel }

/-- An initialising engine with a sensor that does not drive DOUT, whose level is 0 before DOUT is configured. -/
def undriven : State := { atPoint .iCfgDout with doutDrive := none, doutFloat := 0 }

/-! ## WellFormed -/

theorem test_wf_refuses_init_of_sel_3 : (Instr.init 3).wf = false := by decide

theorem test_wf_refuses_setGain_of_sel_3 : (Instr.setGain 3).wf = false := by decide

theorem test_wf_refuses_illegal_of_a_known_word :
    ([0x01, 0x21, 0x02, 0x05, 0x26, 0x31, 0x36].all fun w => !(Instr.illegal w).wf) = true := by decide

theorem test_wf_accepts :
    (Instr.init 2).wf = true ∧ (Instr.setGain 0).wf = true ∧ (Instr.illegal 0x41).wf = true ∧ Instr.read.wf = true := by
  decide

/-! ## Decode: the words of 95_test_vectors.md section 2.1, written from the fields of 30_encoding.md R71 -/

theorem test_decode_init :
    decode 0b00000000000000000000000000000001 = .init 0 ∧ decode 0b00000000000000000000000000010001 = .init 1
      ∧ decode 0b00000000000000000000000000100001 = .init 2 := by decide

theorem test_decode_waitReady : decode 0b00000000000000000000000000000010 = .waitReady := by decide

theorem test_decode_read : decode 0b00000000000000000000000000000011 = .read := by decide

theorem test_decode_sleep : decode 0b00000000000000000000000000000100 = .sleep := by decide

theorem test_decode_wake : decode 0b00000000000000000000000000000101 = .wake := by decide

theorem test_decode_setGain :
    decode 0b00000000000000000000000000000110 = .setGain 0 ∧ decode 0b00000000000000000000000000010110 = .setGain 1
      ∧ decode 0b00000000000000000000000000100110 = .setGain 2 := by decide

theorem test_decode_invalid :
    decode 0b00000000000000000000000000110001 = .invalidInit
      ∧ decode 0b00000000000000000000000000110110 = .invalidSetGain := by decide

theorem test_decode_illegal :
    ([0x00000000, 0x00000041, 0x00000012, 0x00000013, 0x00000103, 0x80000003, 0x00000014, 0x00000007, 0x00000008,
      0x0000000F, 0x00000071, 0xFFFFFFFF].all fun w => decode w == .illegal w) = true := by decide

theorem test_encode :
    encode (.init 1) = 0x11 ∧ encode .waitReady = 0x02 ∧ encode .read = 0x03 ∧ encode .sleep = 0x04
      ∧ encode .wake = 0x05 ∧ encode (.setGain 1) = 0x16 ∧ encode .invalidInit = 0x31 ∧ encode .invalidSetGain = 0x36
      ∧ encode (.illegal 0x41) = 0x41 := by decide

theorem test_decodeTableWord :
    decodeTableWord 32 0x26 = some (.setGain 2) ∧ decodeTableWord 8 0x103 = some .read
      ∧ decodeTableWord 32 0x103 = some (.illegal 0x103) ∧ decodeTableWord 40 0x03 = none := by decide

/-- The host-program syntax of 30_encoding.md R82 and R83, as program P3 of 95_test_vectors.md encodes it. -/
theorem test_host_syntax :
    doOps Mnemonic.initA64.ops = [.wr .cmd 0x21, .sync] ∧ waitrdyMs 0 = [.wr .arg 0, .wr .cmd 0x02]
      ∧ sampleOps = [.wr .cmd 0x03, .sync, .rd .result] ∧ Mnemonic.setgainB32.word = 0x16 := by decide

/-! ## One step each: the vectors of 95_test_vectors.md sections 2.2 to 2.10 and the examples of the rules -/

/-- A running INIT shows BUSY alone, and a second one is ILLEGAL. -/
theorem test_init_write : statusAfter 0x21 fresh = 0x00000001 ∧ statusAfter 0x01 ready = 0x000000E2 := by decide

/-- 40_init.md R85's example, and R89: PinCfg(DOUT) returns err. -/
theorem test_init_ends :
    statusWord (after (atPoint .iCommit)) = 0x00000002
      ∧ statusWord (after { atPoint .iCfgDout with turns := [.block true] }) = 0x00000020 := by decide

theorem test_waitReady_write :
    statusAfter 0x02 { ready with asleep := true } = 0x000000C6
      ∧ (nextOf (exec .waitReady { ready with arg := 0xFFFFFFFF, now := 7 }) ready).tmo = 4294967295000
      ∧ (nextOf (exec .waitReady { ready with arg := 0xFFFFFFFF, now := 7 }) ready).t0 = 7 := by decide

/-- 41_acquire.md R90's example, and R91: at the deadline, ready beats the timeout. -/
theorem test_waitReady_sample :
    statusWord (after (atPoint .wSample)) = 0x00000062
      ∧ statusWord (after { atPoint .wSample with doutDrive := some 0, now := 1000, tmo := 1000 }) = 0x00000002 := by decide

/-- A rejected READ clears VALID, and an accepted one has its own timeout. -/
theorem test_read_write :
    statusAfter 0x03 { ready with asleep := true, valid := true } = 0x000000C6 ∧ statusAfter 0x03 fresh = 0x00000040
      ∧ (nextOf (exec .read { ready with arg := 5 }) ready).tmo = 1000000 := by decide

/-- 41_acquire.md R101's commit, R92's shift, and a PinGet of a data pulse that returns err. -/
theorem test_read_points :
    statusWord (after { atPoint .rCommit with acc := 0x800000 }) = 0x0000000A
      ∧ (after { atPoint .rCommit with acc := 0x800000 }).result = 0xFF800000
      ∧ (after { atPoint .dSample with acc := 0xC00001 }).acc = 0x800003
      ∧ (after { atPoint .dSample with acc := 0xC00001 }).bit = 24
      ∧ statusWord (after { atPoint .dSample with valid := true, sck := 1, turns := [.block true] }) = 0x00000082
      ∧ (after { atPoint .dSample with valid := true, sck := 1, turns := [.block true] }).sck = 1 := by decide

theorem test_sleep_write : statusAfter 0x04 ready = 0x00000003 ∧ statusAfter 0x04 fresh = 0x00000040 := by decide

theorem test_sleep_commit : statusWord (after (atPoint .sCommit)) = 0x00000006 := by decide

theorem test_wake_write : statusAfter 0x05 fresh = 0x00000040 := by decide

/-- WAKE drives SCK low and settles; a failed one leaves ASLEEP set. -/
theorem test_wake_set :
    (after { atPoint .kSet with asleep := true, sck := 1 }).sck = 0
      ∧ (after { atPoint .kSet with asleep := true, sck := 1 }).due = 400000
      ∧ statusWord (after { atPoint .kSet with asleep := true, turns := [.block true] }) = 0x00000086 := by decide

theorem test_setGain :
    statusAfter 0x16 ready = 0x00000102 ∧ statusAfter 0x26 { ready with asleep := true } = 0x00000206
      ∧ statusAfter 0x06 { ready with sel := 2, valid := true } = 0x0000000A := by decide

theorem test_setGain_clears_ovr_and_err :
    statusAfter 0x06 { ready with ovr := true, err := .asleep } = 0x00000002 := by decide

theorem test_invalidInit : statusAfter 0x31 ready = 0x000000A2 ∧ statusAfter 0x31 fresh = 0x000000A0 := by decide

theorem test_invalidSetGain :
    statusAfter 0x36 { ready with sel := 1 } = 0x000001A2 ∧ statusAfter 0x36 fresh = 0x000000A0 := by decide

theorem test_illegal :
    statusAfter 0x00 fresh = 0x000000E0 ∧ statusAfter 0x13 { ready with valid := true } = 0x000000EA := by decide

theorem test_word_dropped_while_init_runs : statusAfter 0x03 (atPoint .iSettle) = 0x00000011 := by decide

/-! ## Shared operations -/

/-- 95_test_vectors.md L1-1 and section 2.5. -/
theorem test_sext :
    sext32 0x800000 = 0xFF800000 ∧ sext32 0x7FFFFF = 0x007FFFFF ∧ sext32 0xABCDEF = 0xFFABCDEF
      ∧ (sext32 0xABCDEF).toInt = -5517841 := by decide

/-- 20_memory.md R60: a DOUT that is configured and not driven reads 1; a driven one reads what it is driven to. -/
theorem test_pullUp :
    (after { ready with doutDrive := some 0, turns := [.sensor .release] }).dout = 1
      ∧ (after undriven).dout = 1 ∧ (after { ready with turns := [.sensor (.drive 0)] }).dout = 0 := by decide

/-- 70_reset_and_hazards.md R136, R137, 92_eei_decisions.md D22: after a reset the lines are not configured, a DOUT that
the pull-up held at 1 is still at 1, and the sensor is unknown until INIT has configured the lines, or, if a command
ran, until the recovery of R144. -/
theorem test_reset_of_lines_and_sensor :
    (resetBlock { ready with doutDrive := none }).doutMode = .unconfigured
      ∧ (resetBlock { ready with doutDrive := none }).dout = 1 ∧ (resetBlock ready).sckMode = .unconfigured
      ∧ (resetBlock ready).sensor.view = .untilInit ∧ (resetBlock (atPoint .dHigh)).sensor.view = .untilRecovery
      ∧ (after undriven).sensor.known = true
      ∧ (after { undriven with sensor := Sensor.powerOn.lose }).sensor.known = false := by decide

/-- 20_memory.md R67: what has been read stays so over a power-down and power-up, and an unread conversion is lost. -/
theorem test_powerCycle :
    (after { atPoint .kSet with sck := 1, sensor := { sensorAt 25 none with lowPower := true } }).sensor.offer = .stale
      ∧ (after { atPoint .kSet with
          sck := 1, sensor := { sensorAt 0 none with lowPower := true, offer := .ready } }).sensor.offer = .none
      ∧ (after { atPoint .iCfgSck with sck := 1, sensor := sensorAt 25 none }).sensor.offer = .stale
      ∧ (after { atPoint .iCfgSck with sck := 1 }).sensor.offer = .none := by decide

/-- 10_state.md R32 and 95_test_vectors.md section 2.10: the registers' indices. -/
theorem test_register_index :
    memRead 0 { ready with arg := 5 } = 0 ∧ memRead 1 { ready with arg := 5 } = 5 ∧ memRead 2 ready = 0x00000002
      ∧ memRead 3 { ready with result := 0xFF800000 } = 0xFF800000
      ∧ (nextOf (memWrite 1 0x12345678 ready) ready).arg = 0x12345678 := by decide

theorem test_config_bounds :
    Config.default.legal = true ∧ { Config.default with tHighUs := 51 }.legal = false
      ∧ { Config.default with tSleepUs := 60 }.legal = false
      ∧ { Config.default with tReadTimeoutMs := 99 }.legal = false := by decide

/-- The word placed for the next step is the instruction it runs, as the first one after reset. -/
theorem test_withFetchWord : step (State.reset.withFetchWord 32 0x31) = execInvalidInit State.reset := rfl

/-! ## Tools of the witnesses -/

/-- With a legal configuration the step goes on. -/
theorem step_after (s : State) (h : s.cfg.legal = true) : step s = .next (after s) := by
  obtain ⟨t, ht⟩ := applyMove_next (nextMove s).1 (nextMove s).2
  have : step s = .next t := by simp [step, systemStep, h, ht]
  simp [after, nextOf, this]

/-- The invariant of the block, from its decidable clauses. -/
theorem inv_of (s : State) (c : Code) (hr : s.result = sext32 c) (hc : readCounts s)
    (h : s.sel ≠ 3 ∧ s.opnd ≠ 3 ∧ (s.busy = true ↔ s.pp ≠ .idle) ∧ s.op = s.pp.op ∧ (s.busy = true → s.err = .ok)
      ∧ (s.op ≠ .none → (s.init = true ↔ s.op ≠ .init)) ∧ (s.op = .read ∨ s.op = .waitReady → s.asleep = false)
      ∧ (s.init = false → s.asleep = false ∧ s.valid = false ∧ s.result = 0 ∧ s.sel = 0)
      ∧ (s.bit ≤ 24 ∧ s.trail ≤ 3) ∧ (s.op = .read ∨ s.op = .waitReady → s.tmo.toNat ≤ maxTimeout)
      ∧ (s.init = true ∨ s.pp ∈ [Point.iCfgDout, .iSettle, .iCommit] → s.sckMode = .output)
      ∧ (s.init = true ∨ s.pp ∈ [Point.iSettle, .iCommit] → s.doutMode = .inputPullup)
      ∧ (s.init = false → s.pp ∉ [Point.iSettle, .iCommit] → s.doutMode = .unconfigured)
      ∧ (s.pp.isDelay = true → ticksToDue s ≤ s.pp.delay s.cfg)) : s.Inv := by
  obtain ⟨h1, h2, h3, h4, h5, h6, h7, h8, h9, h10, h11, h12, h13, h14⟩ := h
  exact ⟨h1, h2, h3, h4, h5, h6, h7, h8, ⟨c, hr⟩, h9, hc, h10, h11, h12, h13, h14⟩

theorem inv_ready : ready.Inv := inv_of _ 0 (by decide) trivial (by decide)

theorem inv_fresh : fresh.Inv := inv_of _ 0 (by decide) trivial (by decide)

theorem inv_atPoint (p : Point) (h : p ≠ .idle) : (atPoint p).Inv := by
  cases p <;> first
    | exact absurd rfl h
    | exact inv_of _ 0 (by decide) trivial (by decide)
    | exact inv_of _ 0 (by decide) ⟨by decide, by decide⟩ (by decide)

/-- The invariant does not depend on the turns, the host's program, the lines' levels or the sensor. -/
theorem inv_env (s t : State) (hi : s.Inv)
    (h : { s with
      turns := t.turns, host := t.host, sck := t.sck, doutDrive := t.doutDrive, doutFloat := t.doutFloat
      sensor := t.sensor } = t) : t.Inv := by
  rw [← h]
  exact ⟨hi.selLegal, hi.opndLegal, hi.busyIff, hi.opOfPoint, hi.errRunning, hi.initRunning, hi.awakeRunning,
    hi.uninit, hi.resultSext, hi.counters, hi.readCounters, hi.tmoBound, hi.sckConfigured, hi.doutConfigured,
    hi.doutUnconfigured, hi.delayBound⟩

/-- What holds between engine and sensor, from its decidable clauses, after INIT. -/
theorem sensorInv_of (s : State) (hh : highAgrees s) (hs : settleAgrees s) (hr : readAgrees s)
    (h : (s.sck = 0 → s.sensor.lowPower = false) ∧ (s.sensor.offer = .ready → s.sensor.pulses = 0)
      ∧ (s.sensor.offer = .read → s.sensor.pulses ≠ 0)
      ∧ (s.pp.sckLow = true → s.sck = 0) ∧ s.init = true ∧ s.sensor.view ≠ .untilInit ∧ s.pp ≠ .iCfgDout) :
    SensorInv s :=
  ⟨h.1, fun hi => absurd (h.2.2.2.2.1.symm.trans hi) (by decide), fun _ => h.2.2.2.2.2.1, h.2.1, h.2.2.1,
    fun _ _ _ => h.2.2.2.1, fun _ => hh, fun hp => absurd hp h.2.2.2.2.2.2, fun _ => hs, fun _ => hr⟩

/-! ## Witnesses: encoding and the step -/

theorem witness_DecodeOfEncode :
    (Instr.init 2).wf = true ∧ (Instr.setGain 2).wf = true ∧ (Instr.illegal 0xFFFFFFFF).wf = true
      ∧ Instr.invalidInit.wf = true := by decide

/-- The host's next access is an operation. -/
def hosting (op : HostOp) (s : State) : State := { s with turns := [.host], host := [op] }

theorem witness_StepRunsPresentedWord :
    (hosting (.wr .cmd 0x16) ready).cfg.legal = true ∧ (hosting (.wr .cmd 0x16) ready).turns = .host :: []
      ∧ (hosting (.wr .cmd 0x16) ready).host = .wr .cmd 0x16 :: [] := by decide

theorem witness_StepRunsFetchWord :
    State.reset.cfg.legal = true ∧ decodeTableWord 32 0x01 = some (.init 0)
      ∧ decodeTableWord 32 0xFFFFFFFF = some (.illegal 0xFFFFFFFF) := by decide

theorem witness_OnlyIllegalConfigIsRefused :
    { ready with cfg := { Config.default with tHighUs := 0 } }.cfg.legal = false ∧ ready.cfg.legal = true := by decide

theorem witness_EngineEventsAreUrgent :
    ((atPoint .dHigh).cfg.legal = true ∧ (atPoint .dHigh).turns = .block false :: [] ∧ (atPoint .dHigh).engineEnabled)
      ∧ ({ atPoint .dHigh with due := 1 }.turns = .block false :: []
        ∧ { atPoint .dHigh with due := 1 }.engineEnabled = false) := by decide

theorem witness_TimeMovesOnlyByTimeStep :
    step (atPoint .dHigh) = .next (after (atPoint .dHigh))
      ∧ step { atPoint .dHigh with due := 1 } = .next (after { atPoint .dHigh with due := 1 })
      ∧ step { ready with turns := [.reset], now := 9 } = .next (after { ready with turns := [.reset], now := 9 }) :=
  ⟨step_after _ (by decide), step_after _ (by decide), step_after _ (by decide)⟩

theorem witness_HostReadHasNoSideEffect :
    ready.cfg.legal = true ∧ (hosting (.rd .status) ready).turns = .host :: []
      ∧ (hosting (.rd .status) ready).host = .rd .status :: [] := by decide

theorem witness_HostWritesOfOtherRegisters :
    (hosting (.wr .arg 5) (atPoint .wPoll)).cfg.legal = true ∧ (hosting (.wr .arg 5) (atPoint .wPoll)).turns = .host :: []
      ∧ (hosting (.wr .arg 5) (atPoint .wPoll)).host = .wr .arg 5 :: []
      ∧ (hosting (.wr .status 5) ready).host = .wr .status 5 :: []
      ∧ (hosting (.wr .result 5) ready).host = .wr .result 5 :: [] := by decide

/-- ARG changes by a host write while a command runs, and by a reset. -/
theorem witness_HostWritesOfOtherRegisters_arg :
    (step (hosting (.wr .arg 5) (atPoint .wPoll)) = .next (after (hosting (.wr .arg 5) (atPoint .wPoll)))
        ∧ (after (hosting (.wr .arg 5) (atPoint .wPoll))).arg ≠ (hosting (.wr .arg 5) (atPoint .wPoll)).arg)
      ∧ (step { ready with arg := 5, turns := [.reset] } = .next (after { ready with arg := 5, turns := [.reset] })
        ∧ (after { ready with arg := 5, turns := [.reset] }).arg ≠ 5) :=
  ⟨⟨step_after _ (by decide), by decide⟩, step_after _ (by decide), by decide⟩

/-- A `sync` that waits and one that ends, an `idle 2` at its first and its last tick, and an `idle 0`. -/
theorem witness_SyncWaitsForCompletion :
    (hosting .sync (atPoint .wPoll)).cfg.legal = true ∧ (hosting .sync (atPoint .wPoll)).turns = .host :: []
      ∧ (hosting .sync (atPoint .wPoll)).host = .sync :: [] ∧ (hosting .sync (atPoint .wPoll)).busy = true
      ∧ (hosting .sync ready).host = .sync :: [] ∧ (hosting .sync ready).busy = false
      ∧ (hosting (.idle 2) ready).host = .idle 2 :: [] ∧ 0 < 2 ∧ 1 < 2
      ∧ { ready with host := [.idle 0, .rd .status], turns := [.host] }.host = .idle 0 :: .rd .status :: []
      ∧ { ready with host := [.idle 0, .rd .status], turns := [.host] }.turns = .host :: [] := by decide

/-! ## Witnesses: the write of a command word -/

theorem witness_WordDroppedWhileBusy : (atPoint .iSettle).busy = true ∧ (atPoint .sHold).busy = true := by decide

theorem witness_InitIsAccepted : fresh.busy = false ∧ fresh.init = false := by decide

theorem witness_SecondInitIsIllegal : ready.busy = false ∧ ready.init = true := by decide

theorem witness_WaitReadyIsAccepted :
    { ready with arg := 0xFFFFFFFF }.busy = false ∧ { ready with arg := 0xFFFFFFFF }.init = true
      ∧ { ready with arg := 0xFFFFFFFF }.asleep = false := by decide

theorem witness_ReadIsAccepted :
    ready.cfg.legal = true ∧ ready.busy = false ∧ ready.init = true ∧ ready.asleep = false := by decide

theorem witness_PowerCommandsAreAccepted :
    { ready with asleep := true }.busy = false ∧ { ready with asleep := true }.init = true := by decide

theorem witness_SetGainCompletes :
    { ready with asleep := true }.busy = false ∧ { ready with asleep := true }.init = true := by decide

theorem witness_NotInitializedRejection : fresh.busy = false ∧ fresh.init = false := by decide

theorem witness_AsleepRejection :
    { ready with asleep := true }.busy = false ∧ { ready with asleep := true }.init = true
      ∧ { ready with asleep := true }.asleep = true := by decide

theorem witness_BadWordsCompleteAtOnce : fresh.busy = false ∧ ready.busy = false := by decide

/-! ## Witnesses: who writes what -/

/-- INIT's commit, and a reset. -/
theorem witness_OnlyInitAndResetWriteInit :
    (step (atPoint .iCommit) = .next (after (atPoint .iCommit)) ∧ (after (atPoint .iCommit)).init ≠ (atPoint .iCommit).init)
      ∧ (step { ready with turns := [.reset] } = .next (after { ready with turns := [.reset] })
        ∧ (after { ready with turns := [.reset] }).init ≠ ready.init) :=
  ⟨⟨step_after _ (by decide), by decide⟩, step_after _ (by decide), by decide⟩

/-- INIT's commit, a SET_GAIN, and a reset. -/
theorem witness_OnlyInitAndSetGainWriteSel :
    (step { atPoint .iCommit with opnd := 2 } = .next (after { atPoint .iCommit with opnd := 2 })
        ∧ (after { atPoint .iCommit with opnd := 2 }).sel ≠ (atPoint .iCommit).sel)
      ∧ (step (hosting (.wr .cmd 0x16) ready) = .next (after (hosting (.wr .cmd 0x16) ready))
        ∧ (after (hosting (.wr .cmd 0x16) ready)).sel ≠ ready.sel)
      ∧ (step { ready with sel := 1, turns := [.reset] } = .next (after { ready with sel := 1, turns := [.reset] })
        ∧ (after { ready with sel := 1, turns := [.reset] }).sel ≠ 1) :=
  ⟨⟨step_after _ (by decide), by decide⟩, ⟨step_after _ (by decide), by decide⟩, step_after _ (by decide), by decide⟩

/-- The commits of SLEEP and of WAKE, and a reset. -/
theorem witness_OnlyPowerCommandsWriteAsleep :
    (step (atPoint .sCommit) = .next (after (atPoint .sCommit)) ∧ (after (atPoint .sCommit)).asleep ≠ false)
      ∧ (step { atPoint .kCommit with asleep := true } = .next (after { atPoint .kCommit with asleep := true })
        ∧ (after { atPoint .kCommit with asleep := true }).asleep ≠ true)
      ∧ (step { ready with asleep := true, turns := [.reset] } = .next (after { ready with asleep := true, turns := [.reset] })
        ∧ (after { ready with asleep := true, turns := [.reset] }).asleep ≠ true) :=
  ⟨⟨step_after _ (by decide), by decide⟩, ⟨step_after _ (by decide), by decide⟩, step_after _ (by decide), by decide⟩

/-- READ's commit, and a reset. -/
theorem witness_OnlySuccessfulReadWritesResult :
    (step { atPoint .rCommit with acc := 0x800000 } = .next (after { atPoint .rCommit with acc := 0x800000 })
        ∧ (after { atPoint .rCommit with acc := 0x800000 }).result ≠ (atPoint .rCommit).result)
      ∧ (step { ready with result := 5, turns := [.reset] } = .next (after { ready with result := 5, turns := [.reset] })
        ∧ (after { ready with result := 5, turns := [.reset] }).result ≠ 5) :=
  ⟨⟨step_after _ (by decide), by decide⟩, step_after _ (by decide), by decide⟩

/-- READ's commit, a READ that fails, a READ that is rejected, and a reset. -/
theorem witness_OnlyReadWritesValid :
    (step (atPoint .rCommit) = .next (after (atPoint .rCommit)) ∧ (after (atPoint .rCommit)).valid ≠ false)
      ∧ (step { atPoint .tFall with valid := true, turns := [.block true] }
          = .next (after { atPoint .tFall with valid := true, turns := [.block true] })
        ∧ (after { atPoint .tFall with valid := true, turns := [.block true] }).valid ≠ true)
      ∧ (step (hosting (.wr .cmd 0x03) { ready with valid := true, asleep := true })
          = .next (after (hosting (.wr .cmd 0x03) { ready with valid := true, asleep := true }))
        ∧ (after (hosting (.wr .cmd 0x03) { ready with valid := true, asleep := true })).valid ≠ true)
      ∧ (step { ready with valid := true, turns := [.reset] } = .next (after { ready with valid := true, turns := [.reset] })
        ∧ (after { ready with valid := true, turns := [.reset] }).valid ≠ true) :=
  ⟨⟨step_after _ (by decide), by decide⟩, ⟨step_after _ (by decide), by decide⟩,
    ⟨step_after _ (by decide), by decide⟩, step_after _ (by decide), by decide⟩

/-- A dropped word, an accepted one, and a reset. -/
theorem witness_OnlyCmdWritesWriteOvr :
    (step (hosting (.wr .cmd 0x03) (atPoint .iSettle)) = .next (after (hosting (.wr .cmd 0x03) (atPoint .iSettle)))
        ∧ (after (hosting (.wr .cmd 0x03) (atPoint .iSettle))).ovr ≠ false)
      ∧ (step (hosting (.wr .cmd 0x06) { ready with ovr := true })
          = .next (after (hosting (.wr .cmd 0x06) { ready with ovr := true }))
        ∧ (after (hosting (.wr .cmd 0x06) { ready with ovr := true })).ovr ≠ true)
      ∧ (step { ready with ovr := true, turns := [.reset] } = .next (after { ready with ovr := true, turns := [.reset] })
        ∧ (after { ready with ovr := true, turns := [.reset] }).ovr ≠ true) :=
  ⟨⟨step_after _ (by decide), by decide⟩, ⟨step_after _ (by decide), by decide⟩, step_after _ (by decide), by decide⟩

/-- The engine at a program point whose pin operation returns err. -/
def failing (p : Point) : State := { atPoint p with turns := [.block true] }

/-- A READ and an INIT that fail. -/
theorem witness_FailedCommandLeavesBlockState :
    (step (failing .dSample) = .next (after (failing .dSample)) ∧ (failing .dSample).busy = true
        ∧ (nextMove (failing .dSample)).1 ≠ .reset ∧ (after (failing .dSample)).busy = false
        ∧ (after (failing .dSample)).err ≠ .ok ∧ (failing .dSample).op = .read)
      ∧ (step (failing .iCfgDout) = .next (after (failing .iCfgDout)) ∧ (failing .iCfgDout).busy = true
        ∧ (nextMove (failing .iCfgDout)).1 ≠ .reset ∧ (after (failing .iCfgDout)).busy = false
        ∧ (after (failing .iCfgDout)).err ≠ .ok ∧ (failing .iCfgDout).op ≠ .read) :=
  ⟨⟨step_after _ (by decide), by decide⟩, step_after _ (by decide), by decide⟩

/-- A READ's rising edge, INIT's configuration of SCK, and a reset. -/
theorem witness_OnlyEngineTouchesLines :
    ((atPoint .dRise).Inv ∧ step (atPoint .dRise) = .next (after (atPoint .dRise))
        ∧ (after (atPoint .dRise)).sck ≠ (atPoint .dRise).sck)
      ∧ ((atPoint .iCfgSck).init = false ∧ { atPoint .iCfgSck with sck := 1 }.Inv
        ∧ step { atPoint .iCfgSck with sck := 1 } = .next (after { atPoint .iCfgSck with sck := 1 })
        ∧ (after { atPoint .iCfgSck with sck := 1 }).sck ≠ 1)
      ∧ ({ ready with turns := [.reset] }.Inv
        ∧ step { ready with turns := [.reset] } = .next (after { ready with turns := [.reset] })
        ∧ (after { ready with turns := [.reset] }).doutMode ≠ ready.doutMode) :=
  ⟨⟨inv_atPoint _ (by decide), step_after _ (by decide), by decide⟩,
    ⟨by decide, inv_env _ _ (inv_atPoint .iCfgSck (by decide)) rfl, step_after _ (by decide), by decide⟩,
    inv_env _ _ inv_ready rfl, step_after _ (by decide), by decide⟩

/-- An idle engine with infallible pins, whose last command ended with a status. -/
def endedWith (st : Status) : State :=
  { ready with cfg := { Config.default with pinFallible := false }, err := st }

theorem witness_InfalliblePinsRaiseNoLineError :
    (step (endedWith .ioError) = .next (after (endedWith .ioError)) ∧ (endedWith .ioError).cfg.pinFallible = false
        ∧ (after (endedWith .ioError)).err = .ioError)
      ∧ (step (endedWith .configError) = .next (after (endedWith .configError))
        ∧ (endedWith .configError).cfg.pinFallible = false ∧ (after (endedWith .configError)).err = .configError) :=
  ⟨⟨step_after _ (by decide), by decide⟩, step_after _ (by decide), by decide⟩

theorem witness_ArgDoesNotAffectRunningCommand :
    (atPoint .wSample).busy = true ∧ step (atPoint .wSample) = .next (after (atPoint .wSample)) :=
  ⟨by decide, step_after _ (by decide)⟩

/-- An engine event, a sensor turn, a driven and an undriven DOUT, and the two that change DOUT. -/
theorem witness_EngineSeesSensorOnlyThroughDout :
    step (atPoint .dFall) = .next (after (atPoint .dFall))
      ∧ ({ ready with turns := [.sensor .release] }.cfg.legal = true
        ∧ { ready with turns := [.sensor .release] }.turns = .sensor .release :: [])
      ∧ ({ ready with doutDrive := some 0 }.doutDrive = some 0
        ∧ { ready with doutDrive := none }.doutDrive = none ∧ ready.doutMode = .inputPullup)
      ∧ (step { ready with turns := [.sensor (.convert 1)] } = .next (after { ready with turns := [.sensor (.convert 1)] })
        ∧ (after { ready with turns := [.sensor (.convert 1)] }).doutDrive ≠ ready.doutDrive
        ∧ (after { ready with turns := [.sensor (.convert 1)] }).dout ≠ ready.dout)
      ∧ (step undriven = .next (after undriven) ∧ (after undriven).dout ≠ undriven.dout) :=
  ⟨step_after _ (by decide), by decide, by decide, ⟨step_after _ (by decide), by decide⟩,
    step_after _ (by decide), by decide⟩

theorem witness_InstancesShareNoState :
    Instances.stepAt 0 { engines := [ready, fresh] } = .next { engines := [after ready, fresh] } ∧ 1 ≠ 0 := by
  refine ⟨?_, by decide⟩
  simp [Instances.stepAt, step_after ready (by decide)]

theorem witness_ResetValues : State.reset ∈ [State.reset, resetBlock ready] := List.mem_cons_self

theorem witness_ResetLeavesLines :
    { atPoint .dHigh with turns := [.reset] }.cfg.legal = true
      ∧ { atPoint .dHigh with turns := [.reset] }.turns = .reset :: [] := by decide

theorem witness_TwentyFourShiftsFormTheCode : (codeBits 0x800001).length = 24 := by decide

/-! ## Witnesses: runs -/

/-- The end of `n` steps in which the command of a state runs and no reset happens. -/
def commandEnd : Nat → State → Option State
  | 0, s => some s
  | n + 1, s => if s.busy && (nextMove s).1 != .reset && s.cfg.legal then commandEnd n (after s) else none

theorem commandRun_of_end (n : Nat) (s t : State) (h : commandEnd n s = some t) : commandRun n s t := by
  induction n generalizing s with
  | zero => simpa [commandEnd, commandRun] using h
  | succ n ih =>
    simp only [commandEnd, Option.ite_none_right_eq_some, Bool.and_eq_true, bne_iff_ne] at h
    exact ⟨h.1.1.1, h.1.1.2, after s, step_after s h.1.2, ih _ h.2⟩

/-- A command's run that ends with a status, from a Bool that says so. -/
theorem command_ends (i : Instr) (s : State) (n : Nat) (st : Status)
    (h : ((commandEnd n (nextOf (exec i s) s)).any fun t => !t.busy && t.err == st) = true) :
    ∃ u t, exec i s = .next u ∧ commandRun n u t ∧ t.busy = false ∧ t.err = st := by
  obtain ⟨u, hu⟩ := exec_next i s
  rw [hu] at h
  obtain ⟨t, ht, hp⟩ := (Option.any_eq_true _ _).1 h
  simp only [Bool.and_eq_true, Bool.not_eq_true', beq_iff_eq] at hp
  exact ⟨u, t, hu, commandRun_of_end _ _ _ ht, hp⟩

theorem witness_InitRunsToCompletion :
    ∃ (s : State) (ts : List Turn), s.cfg.legal = true ∧ s.busy = false ∧ s.init = false
      ∧ s.turns = quiet (settleTicks s.cfg + 4) ++ ts ∧ SensorInv s
      ∧ s.sensor.view ≠ .untilRecovery :=
  ⟨{ fresh with turns := quiet (settleTicks fresh.cfg + 4) ++ [.host] }, [.host], by decide, by decide, by decide, rfl,
    ⟨by decide, by decide, by decide, by decide, by decide, by decide, fun _ => trivial, by decide, fun _ _ => rfl,
      fun _ _ => trivial⟩,
    by decide⟩

theorem witness_FailedInit :
    { fresh with turns := [.block true] }.cfg.legal = true ∧ { fresh with turns := [.block true] }.cfg.pinFallible = true
      ∧ { fresh with turns := [.block true] }.busy = false ∧ { fresh with turns := [.block true] }.init = false
      ∧ { fresh with turns := [.block true] }.turns = .block true :: []
      ∧ { fresh with turns := [.block false, .block true] }.turns = .block false :: .block true :: [] := by decide

theorem witness_SleepRunsToCompletion :
    ∃ (s : State) (ts : List Turn), s.cfg.legal = true ∧ s.busy = false ∧ s.init = true
      ∧ s.turns = quiet (s.cfg.tSleepUs + 3) ++ ts :=
  ⟨{ ready with turns := quiet (ready.cfg.tSleepUs + 3) ++ [] }, [], by decide, by decide, by decide, rfl⟩

/-- An engine whose sensor is in low-power mode. -/
def sleeping : State :=
  { ready with asleep := true, sck := 1, sensor := { sensorAt 25 (some .a128) with lowPower := true, highFor := 100 } }

theorem inv_sleeping : sleeping.Inv := inv_of _ 0 (by decide) trivial (by decide)

/-- A WAKE of a sleeping sensor that is known, and the WAKE that follows a SLEEP after an IO_ERROR. -/
theorem witness_WakeRunsToCompletion :
    (∃ (s : State) (ts : List Turn), s.cfg.legal = true ∧ s.busy = false ∧ s.init = true
        ∧ s.turns = quiet (settleTicks s.cfg + 3) ++ ts ∧ s.Inv ∧ SensorInv s ∧ s.sensor.known = true)
      ∧ ∃ (s : State) (ts : List Turn), s.cfg.legal = true ∧ s.busy = false ∧ s.init = true
        ∧ s.turns = quiet (settleTicks s.cfg + 3) ++ ts ∧ s.sensor.known = false ∧ s.sck = 1
        ∧ s.sensor.lowPower = true :=
  ⟨⟨{ sleeping with turns := quiet (settleTicks sleeping.cfg + 3) ++ [] }, [], by decide, by decide, by decide, rfl,
      inv_env sleeping _ inv_sleeping rfl,
      ⟨by decide, by decide, by decide, by decide, by decide, fun _ _ h => absurd h (by decide), fun _ => trivial, by decide,
        fun _ _ => rfl, fun _ _ => trivial⟩,
      by decide⟩,
    ⟨{ sleeping with
        turns := quiet (settleTicks sleeping.cfg + 3) ++ [], sensor := { sleeping.sensor with view := .untilRecovery } },
      [], by decide, by decide, by decide, rfl, by decide, by decide, by decide⟩⟩

/-- A ready sample at the acceptance tick with ARG = 0, and one at the deadline with ARG = 1. -/
theorem witness_WaitReadyEndsAtReadySample :
    (∃ (s : State) (ts : List Turn), s.cfg.legal = true ∧ s.busy = false ∧ s.init = true ∧ s.asleep = false
        ∧ 0 * s.cfg.tPollUs < s.arg.toNat * 1000 + s.cfg.tPollUs ∧ s.turns = readyAt s.cfg 0 ++ quiet 1 ++ ts)
      ∧ (∃ (s : State) (ts : List Turn), s.cfg.legal = true ∧ s.busy = false ∧ s.init = true ∧ s.asleep = false
        ∧ 1 * s.cfg.tPollUs < s.arg.toNat * 1000 + s.cfg.tPollUs ∧ s.turns = readyAt s.cfg 1 ++ quiet 1 ++ ts) :=
  ⟨⟨{ ready with turns := readyAt ready.cfg 0 ++ quiet 1 ++ [] }, [], by decide, by decide, by decide, by decide,
      by decide, rfl⟩,
    ⟨{ ready with arg := 1, turns := readyAt ready.cfg 1 ++ quiet 1 ++ [] }, [], by decide, by decide, by decide,
      by decide, by decide, rfl⟩⟩

/-- A WAIT_READY whose one sample is ready, with a host access before it. -/
theorem witness_WaitReadyEndsAtReadySample_run :
    ∃ (s u t : State) (n : Nat), s.cfg.legal = true ∧ s.busy = false ∧ s.init = true ∧ s.asleep = false
      ∧ exec .waitReady s = .next u ∧ commandRun n u t ∧ t.busy = false ∧ t.err = .ok := by
  obtain ⟨u, t, h⟩ := command_ends .waitReady
    { ready with doutDrive := some 0, host := [.rd .status], turns := [.host, .block false] } 2 .ok (by decide)
  exact ⟨_, u, t, 2, by decide, by decide, by decide, by decide, h⟩

/-- A WAIT_READY with ARG = 0 whose one sample is not ready, with a change of DOUT before it. -/
theorem witness_WaitReadyTimesOut_run :
    ∃ (s u t : State) (n : Nat), s.cfg.legal = true ∧ s.busy = false ∧ s.init = true ∧ s.asleep = false
      ∧ exec .waitReady s = .next u ∧ commandRun n u t ∧ t.busy = false ∧ t.err = .notReady := by
  obtain ⟨u, t, h⟩ := command_ends .waitReady
    { ready with doutDrive := some 0, turns := [.sensor (.drive 1), .block false] } 2 .notReady (by decide)
  exact ⟨_, u, t, 2, by decide, by decide, by decide, by decide, h⟩

/-- DOUT driven high, and a disconnected sensor. -/
theorem witness_WaitReadyTimesOut :
    ∀ e ∈ [SensorEvent.drive 1, .release], ∃ (s : State) (ts : List Turn),
      s.cfg.legal = true ∧ s.busy = false ∧ s.init = true ∧ s.asleep = false ∧ holdsHigh e s
        ∧ s.turns = neverReady s.cfg e (s.arg.toNat * 1000) ++ ts := by
  intro e he
  refine ⟨{ ready with arg := 100, turns := neverReady ready.cfg e ((100 : Word).toNat * 1000) ++ [] }, [],
    (by decide : ready.cfg.legal = true), rfl, rfl, rfl, ?_, rfl⟩
  fin_cases he <;> rfl

theorem witness_ReadTimesOut :
    ∀ e ∈ [SensorEvent.drive 1, .release], ∃ (s : State) (ts : List Turn),
      s.cfg.legal = true ∧ s.busy = false ∧ s.init = true ∧ s.asleep = false ∧ holdsHigh e s
        ∧ s.turns = neverReady s.cfg e (msTicks s.cfg.tReadTimeoutMs) ++ ts := by
  intro e he
  refine ⟨{ ready with turns := neverReady ready.cfg e (msTicks ready.cfg.tReadTimeoutMs) ++ [] }, [],
    (by decide : ready.cfg.legal = true), rfl, rfl, rfl, ?_, rfl⟩
  fin_cases he <;> rfl

/-- A READ about to be written, whose timeout allows one poll Delay, of 100000 ticks. -/
def polling : State :=
  { ready with
    cfg := { Config.default with tPollUs := 100000, tReadTimeoutMs := 100 }
    turns := .block false :: (quiet 100000 ++ [.block false, .block false]) }

/-- The accepted READ, and the end of its poll Delay. -/
def pollStart : State := nextOf (exec .read polling) polling

def pollEnd : State := waited 100000 { after pollStart with turns := [.block false, .block false] }

theorem pollEnd_run : commandRun (1 + 100000) pollStart pollEnd :=
  commandRun_add (commandRun_one rfl (by decide) (step_after pollStart (by decide)))
    (commandRun_delay 100000 (after pollStart) _ (by decide) (by decide) (by decide) rfl (by decide) rfl)

/-- A READ that samples 1 at its deadline times out. -/
theorem timesOut_at_sample (s : State) (hl : s.cfg.legal = true) (hb : s.busy = true) (hp : s.pp = .rwSample)
    (ht : s.turns = [.block false]) (hd : s.dout ≠ 0) (he : s.tmo ≤ s.now - s.t0) :
    ∃ t, commandRun 1 s t ∧ t.busy = false ∧ t.err = .notReady := by
  have h := step_block_event s false _ hl ht (enabled_of_point s hb (by simp [hp]) (by simp [hp, Point.isDelay]))
  refine ⟨_, commandRun_one hb (nextMove_block_turn _ _ _ ht) h, ?_⟩
  have hd : State.dout { s with turns := [] } ≠ 0 := hd
  have he : State.tmo { s with turns := [] } ≤ elapsed { s with turns := [] } := he
  have hp : State.pp { s with turns := [] } = .rwSample := hp
  generalize ({ s with turns := [] } : State) = u at hd he hp ⊢
  simp only [engineEvent, hp, pointRwSample, readySample, pinGetDout, pinFails_false, Bool.false_eq_true, if_false,
    if_neg hd, if_pos he]
  exact ⟨rfl, rfl⟩

/-- A READ whose poll Delay ends at its deadline, with DOUT = 1, times out. -/
theorem timesOut_at_deadline (s : State) (hl : s.cfg.legal = true) (hb : s.busy = true) (hp : s.pp = .rwPoll)
    (ht : s.turns = [.block false, .block false]) (hn : s.now = s.due) (hd : s.dout ≠ 0)
    (he : s.tmo ≤ s.now - s.t0) : ∃ t, commandRun (1 + 1) s t ∧ t.busy = false ∧ t.err = .notReady := by
  have h1 := step_block_event s false _ hl ht (enabled_of_due s hb (by simp [hp]) hn)
  simp only [engineEvent, hp, pointRwPoll] at h1
  obtain ⟨t, hr, h⟩ := timesOut_at_sample (goTo .rwSample { s with turns := [.block false] }) hl hb rfl rfl hd he
  exact ⟨t, commandRun_add (commandRun_one hb (nextMove_block_turn _ _ _ ht) h1) hr, h⟩

/-- A READ that finds DOUT = 1 before and after its one poll Delay. -/
theorem witness_ReadTimesOut_run :
    ∃ (s u t : State) (n : Nat), s.cfg.legal = true ∧ s.busy = false ∧ s.init = true ∧ s.asleep = false
      ∧ exec .read s = .next u ∧ commandRun n u t ∧ t.busy = false ∧ t.err = .notReady := by
  obtain ⟨t, hr, h⟩ := timesOut_at_deadline pollEnd (by rw [pollEnd, waited_cfg]; decide)
    (by rw [pollEnd, waited_busy]; decide) (by rw [pollEnd, waited_pp]; decide) (by rw [pollEnd, waited_turns])
    (by rw [pollEnd, waited_now, waited_due]; decide) (by rw [pollEnd, waited_dout]; decide)
    (by rw [pollEnd, waited_tmo, waited_now, waited_t0]; decide)
  exact ⟨polling, pollStart, t, _, by decide, by decide, by decide, by decide, rfl, commandRun_add pollEnd_run hr, h⟩

/-- The READ of 41_acquire.md R101, and one that is ready at the deadline. -/
theorem witness_ReadReturnsTheCode :
    (∃ (s : State) (ts : List Turn), s.cfg.legal = true ∧ s.busy = false ∧ s.init = true ∧ s.asleep = false ∧ s.sel ≠ 3
        ∧ 0 * s.cfg.tPollUs < msTicks s.cfg.tReadTimeoutMs + s.cfg.tPollUs
        ∧ s.turns = readTurns s.cfg s.sel 0 0x800000 ++ ts)
      ∧ (∃ (s : State) (ts : List Turn), s.cfg.legal = true ∧ s.busy = false ∧ s.init = true ∧ s.asleep = false
        ∧ s.sel ≠ 3 ∧ 1000 * s.cfg.tPollUs < msTicks s.cfg.tReadTimeoutMs + s.cfg.tPollUs
        ∧ s.turns = readTurns s.cfg s.sel 1000 0x7FFFFF ++ ts) :=
  ⟨⟨{ ready with turns := readTurns ready.cfg ready.sel 0 0x800000 ++ [] }, [], by decide, by decide, by decide,
      by decide, by decide, by decide, rfl⟩,
    ⟨{ ready with sel := 2, turns := readTurns ready.cfg 2 1000 0x7FFFFF ++ [] }, [], by decide, by decide, by decide,
      by decide, by decide, by decide, rfl⟩⟩

theorem witness_ReadLineTrace :
    ∃ (s u : State) (ts : List Turn), s.cfg.legal = true ∧ s.busy = false ∧ s.init = true ∧ s.asleep = false ∧ s.sel ≠ 3
      ∧ 0 * s.cfg.tPollUs < msTicks s.cfg.tReadTimeoutMs + s.cfg.tPollUs
      ∧ s.turns = readTurns s.cfg s.sel 0 0x123456 ++ ts ∧ exec .read s = .next u := by
  obtain ⟨u, hu⟩ := exec_next .read { ready with turns := readTurns ready.cfg ready.sel 0 0x123456 ++ [] }
  exact ⟨_, u, [], by decide, by decide, by decide, by decide, by decide, by decide, rfl, hu⟩

/-- A READ that is ready at its first sample and shifts in 24 ones. -/
theorem witness_ReadLineTrace_run :
    ∃ (s u t : State) (n : Nat), s.cfg.legal = true ∧ s.busy = false ∧ s.init = true ∧ s.asleep = false ∧ s.sel ≠ 3
      ∧ exec .read s = .next u ∧ commandRun n u t ∧ t.busy = false ∧ t.err = .ok := by
  obtain ⟨u, t, h⟩ := command_ends .read
    { ready with doutDrive := some 0, turns := quiet 1 ++ .sensor (.drive 1) :: quiet 175 } 177 .ok (by decide +kernel)
  exact ⟨_, u, t, 177, by decide, by decide, by decide, by decide, by decide, h⟩

/-- Every point that has a PinGet or PinSet. -/
theorem witness_PinErrorEndsTheCommand :
    ∀ p ∈ [Point.wSample, .rwSample, .dRise, .dSample, .dFall, .tRise, .tFall, .sSet, .kSet],
      (failing p).cfg.legal = true ∧ (failing p).cfg.pinFallible = true ∧ (failing p).Inv
        ∧ (failing p).turns = .block true :: [] ∧ (failing p).pp = p := by
  intro p hp
  refine ⟨(by decide : Config.default.legal = true), rfl, inv_env (atPoint p) _ (inv_atPoint p ?_) rfl, rfl, rfl⟩
  rintro rfl
  simp at hp

/-! ## Witnesses: invariants and bounds -/

theorem witness_StepKeepsInv :
    (atPoint .dLow).Inv ∧ step (atPoint .dLow) = .next (after (atPoint .dLow)) :=
  ⟨inv_atPoint _ (by decide), step_after _ (by decide)⟩

/-- A READ about to sample a conversion that is ready. -/
def readySampled : State :=
  { atPoint .rwSample with doutDrive := some 0, sensor := { sensorAt 0 (some .b32) with offer := .ready } }

/-- A READ about to sample its last data bit, a 0. -/
def lastBit : State :=
  { atPoint .dSample with sck := 1, doutDrive := some 0, sensor := { sensorAt 23 (some .b32) with highFor := 1 } }

/-- A READ about to commit. -/
def committing : State :=
  { atPoint .rCommit with sensor := { sensorAt 25 (some .b32) with nextSel := some .a128 } }

theorem sensorInv_readySampled : SensorInv readySampled :=
  sensorInv_of _ trivial (fun _ => rfl) (fun _ => trivial) (by decide)

theorem sensorInv_lastBit : SensorInv lastBit :=
  sensorInv_of _ ⟨by decide, by decide, by decide⟩ (fun _ => rfl) (fun _ => (by decide : (0 : Nat) = 0 / 2 ^ 1))
    (by decide)

theorem sensorInv_committing : SensorInv committing :=
  sensorInv_of _ trivial (fun _ => rfl) (fun _ => ⟨by decide, by decide⟩) (by decide)

/-- A READ about to sample between the pulses of the read before and the next conversion, with DOUT drawn 0. -/
def earlySampled : State := { readySampled with sensor := sensorAt 25 (some .b32) }

/-- The same after a SLEEP and a WAKE. -/
def staleSampled : State := { readySampled with sensor := { sensorAt 0 (some .b32) with offer := .stale } }

theorem sensorInv_earlySampled : SensorInv earlySampled :=
  sensorInv_of _ trivial (fun _ => rfl) (fun _ => trivial) (by decide)

theorem sensorInv_staleSampled : SensorInv staleSampled :=
  sensorInv_of _ trivial (fun _ => rfl) (fun _ => trivial) (by decide)

theorem conforming_readySampled : conforming readySampled :=
  fun _ => (by decide : (Offer.ready = .ready → (0 : Level) = 0) ∧ (Offer.ready = .none → (0 : Level) = 1))

theorem conforming_earlySampled : conforming earlySampled :=
  fun _ => (by decide : (Offer.read = .ready → (0 : Level) = 0) ∧ (Offer.read = .none → (0 : Level) = 1))

theorem conforming_staleSampled : conforming staleSampled :=
  fun _ => (by decide : (Offer.stale = .ready → (0 : Level) = 0) ∧ (Offer.stale = .none → (0 : Level) = 1))

theorem conforming_lastBit : conforming lastBit :=
  fun _ _ => (by decide : (0 : Level) = BitVec.ofBool ((0 : Code).getLsbD (23 - 23)))

theorem inv_readySampled : readySampled.Inv := inv_env _ _ (inv_atPoint .rwSample (by decide)) rfl

theorem inv_lastBit : lastBit.Inv := inv_env _ _ (inv_atPoint .dSample (by decide)) rfl

theorem inv_committing : committing.Inv := inv_env _ _ (inv_atPoint .rCommit (by decide)) rfl

/-- A ready sample, the sample of a data bit, and two samples of a level that is a draw. -/
theorem witness_StepKeepsSensorInv :
    (readySampled.Inv ∧ SensorInv readySampled ∧ conforming readySampled ∧ step readySampled = .next (after readySampled))
      ∧ (lastBit.Inv ∧ SensorInv lastBit ∧ conforming lastBit ∧ step lastBit = .next (after lastBit))
      ∧ (earlySampled.Inv ∧ SensorInv earlySampled ∧ conforming earlySampled
        ∧ step earlySampled = .next (after earlySampled))
      ∧ (staleSampled.Inv ∧ SensorInv staleSampled ∧ conforming staleSampled
        ∧ step staleSampled = .next (after staleSampled)) :=
  ⟨⟨inv_readySampled, sensorInv_readySampled, conforming_readySampled, step_after _ (by decide)⟩,
    ⟨inv_lastBit, sensorInv_lastBit, conforming_lastBit, step_after _ (by decide)⟩,
    ⟨inv_env _ _ inv_readySampled rfl, sensorInv_earlySampled, conforming_earlySampled, step_after _ (by decide)⟩,
    inv_env _ _ inv_readySampled rfl, sensorInv_staleSampled, conforming_staleSampled, step_after _ (by decide)⟩

/-- The lag's five parts: a READ's ready sample, a step of its pulses, its commit, a step before that, and the
conversion it returns. -/
theorem witness_OneReadingLag :
    (readySampled.Inv ∧ SensorInv readySampled ∧ readySampled.sensor.known = true ∧ readySampled.sensor.offer = .ready
        ∧ readySampled.pp = .rwSample ∧ (∃ e, (nextMove readySampled).1 = .engine e)
        ∧ step readySampled = .next (after readySampled) ∧ (after readySampled).pp = .dRise)
      ∧ (lastBit.Inv ∧ SensorInv lastBit ∧ conforming lastBit ∧ lastBit.pp.shifts = true ∧ readsReady lastBit
        ∧ step lastBit = .next (after lastBit) ∧ (after lastBit).pp.shifts = true
        ∧ (after lastBit).sensor.known = true)
      ∧ (committing.Inv ∧ SensorInv committing ∧ committing.sensor.known = true ∧ readsReady committing
        ∧ committing.pp = .rCommit ∧ (∃ e, (nextMove committing).1 = .engine e)
        ∧ step committing = .next (after committing))
      ∧ (readySampled.Inv ∧ SensorInv readySampled ∧ conforming readySampled ∧ lagInv (some .b32) readySampled
        ∧ readySampled.op ∈ [Op.none, .waitReady, .read] ∧ readySampled.pp ≠ .rCommit
        ∧ (nextMove readySampled).1 ≠ .reset ∧ step readySampled = .next (after readySampled))
      ∧ (lagInv (some .b32) committing ∧ committing.sensor.known = true ∧ readsReady committing
        ∧ committing.pp = .rCommit) :=
  ⟨⟨inv_readySampled, sensorInv_readySampled, by decide, by decide, by decide, ⟨false, by decide⟩,
      step_after _ (by decide), by decide⟩,
    ⟨inv_lastBit, sensorInv_lastBit, conforming_lastBit, by decide, ⟨.inr rfl, rfl⟩, step_after _ (by decide), by decide,
      by decide⟩,
    ⟨inv_committing, sensorInv_committing, by decide, ⟨.inr rfl, rfl⟩, by decide, ⟨false, by decide⟩, step_after _ (by decide)⟩,
    ⟨inv_readySampled, sensorInv_readySampled, conforming_readySampled,
      fun _ => (by decide : some Selector.b32 = some .b32 ∧ (Offer.ready = .ready → some Selector.b32 = some .b32)), by decide,
      by decide, by decide, step_after _ (by decide)⟩,
    fun _ _ => (by decide : some Selector.b32 = some .b32), by decide, ⟨.inr rfl, rfl⟩, by decide⟩

/-- A SLEEP at the start of its hold. -/
def holding : State := { atPoint .sHold with due := 100 }

/-- An engine event and a tick of a running command. -/
theorem witness_TicksLeftFallWithTime :
    ((atPoint .dLow).Inv ∧ (atPoint .dLow).busy = true ∧ step (atPoint .dLow) = .next (after (atPoint .dLow))
        ∧ (after (atPoint .dLow)).busy = true)
      ∧ (holding.Inv ∧ holding.busy = true ∧ step holding = .next (after holding) ∧ (after holding).busy = true
        ∧ (nextMove holding).1 = .tick) :=
  ⟨⟨inv_atPoint _ (by decide), by decide, step_after _ (by decide), by decide⟩,
    inv_of _ 0 (by decide) trivial (by decide), by decide, step_after _ (by decide), by decide, by decide⟩

theorem witness_AcceptedCommandHasWorstCaseLeft :
    ∃ t, { ready with arg := 0xFFFFFFFF }.Inv ∧ ready.cfg.legal = true ∧ ready.busy = false
      ∧ exec .waitReady { ready with arg := 0xFFFFFFFF } = .next t :=
  ⟨_, inv_of _ 0 (by decide) trivial (by decide), by decide, by decide, rfl⟩

/-- A SLEEP with one tick of its hold left, in a run whose moves are all the block's own. -/
def fairRun : Nat → State
  | 0 => { atPoint .sHold with due := 1, turns := [] }
  | n + 1 => after (fairRun n)

/-- An idle block with no host program and no turns lets time pass, and stays so. -/
theorem idle_ticks (s : State) (hl : s.cfg.legal = true) (hb : s.busy = false) (hh : s.host = []) (ht : s.turns = []) :
    (nextMove s).1 = .tick ∧ (after s).cfg = s.cfg ∧ (after s).busy = false ∧ (after s).host = []
      ∧ (after s).turns = [] := by
  simp [after, nextOf, step, systemStep, hl, nextMove, ht, hh, hb, hostReady, hostHasAccess, skipIdle, freeBlockMove,
    blockMove, State.engineEnabled, applyMove, timeStep, hostTick]

theorem fairRun_idle (n : Nat) :
    (fairRun (n + 3)).cfg.legal = true ∧ (fairRun (n + 3)).busy = false ∧ (fairRun (n + 3)).host = []
      ∧ (fairRun (n + 3)).turns = [] := by
  induction n with
  | zero => decide
  | succ n ih =>
    obtain ⟨hl, hb, hh, ht⟩ := ih
    obtain ⟨-, hc, h⟩ := idle_ticks _ hl hb hh ht
    exact ⟨(congrArg Config.legal hc).trans hl, h⟩

/-- A run whose steps are those of `after`, with no input, is a run. -/
theorem inputRun_of (r : Nat → State) (hr : ∀ n, r (n + 1) = after (r n)) (hl : ∀ n, (r n).cfg.legal = true) :
    InputRun r :=
  ⟨fun n => ⟨after (r n), [], [], step_after _ (hl n), by simp [arrives, hr n]⟩⟩

theorem fairRun_legal : ∀ n, (fairRun n).cfg.legal = true
  | 0 => by decide
  | 1 => by decide
  | 2 => by decide
  | n + 3 => (fairRun_idle n).1

theorem fairRun_fair : FairRun fairRun where
  toInputRun := inputRun_of _ (fun _ => rfl) fairRun_legal
  fair := fun n => by
    obtain ⟨_, hb, hh, ht⟩ := fairRun_idle n
    exact ⟨n + 3, by omega, (idle_ticks _ (fairRun_idle n).1 hb hh ht).1⟩

theorem witness_EveryCommandCompletesInFairRuns :
    FairRun fairRun ∧ (fairRun 0).Inv ∧ (fairRun 0).busy = true :=
  ⟨fairRun_fair, inv_of _ 0 (by decide) trivial (by decide), by decide⟩

/-- A host that polls STATUS before every move of the block: when its access has been made a block turn arrives, and
after that its next access. -/
def pollOnce (s : State) : State :=
  if s.turns = [.host] then arrives [.block false] [] (after s) else arrives [.host] [.rd .status] (after s)

/-- A SLEEP that ends, under endless polling. -/
def pollingRun : Nat → State
  | 0 => hosting (.rd .status) (atPoint .sCommit)
  | n + 1 => pollOnce (pollingRun n)

/-- An idle block that is about to be polled lets time pass two steps later, and is about to be polled again. -/
theorem polled (s : State) (hl : s.cfg.legal = true) (hb : s.busy = false) (ht : s.turns = [.host])
    (hh : s.host = [.rd .status]) :
    (pollOnce s).cfg = s.cfg ∧ (nextMove (pollOnce s)).1 = .tick
      ∧ (pollOnce (pollOnce s)).cfg = s.cfg ∧ (pollOnce (pollOnce s)).busy = false
      ∧ (pollOnce (pollOnce s)).turns = [.host] ∧ (pollOnce (pollOnce s)).host = [.rd .status] := by
  simp [pollOnce, after, nextOf, step, systemStep, hl, nextMove, ht, hh, hb, hostHasAccess, skipIdle, applyMove,
    hostAccess, arrives, blockMove, State.engineEnabled, timeStep, hostTick]

theorem pollingRun_idle (k : Nat) :
    (pollingRun (2 * k + 2)).cfg.legal = true ∧ (pollingRun (2 * k + 2)).busy = false
      ∧ (pollingRun (2 * k + 2)).turns = [.host] ∧ (pollingRun (2 * k + 2)).host = [.rd .status] := by
  induction k with
  | zero => decide
  | succ k ih =>
    obtain ⟨hl, hb, ht, hh⟩ := ih
    obtain ⟨-, -, hc, h⟩ := polled _ hl hb ht hh
    exact ⟨(congrArg Config.legal hc).trans hl, h⟩

/-- Time passes after every access of a host that polls without end. -/
theorem pollingRun_ticks (k : Nat) :
    (pollingRun (2 * k + 3)).cfg.legal = true ∧ (nextMove (pollingRun (2 * k + 3))).1 = .tick := by
  obtain ⟨hl, hb, ht, hh⟩ := pollingRun_idle k
  obtain ⟨hc, hm, -⟩ := polled _ hl hb ht hh
  exact ⟨(congrArg Config.legal hc).trans hl, hm⟩

theorem pollingRun_legal : ∀ n, (pollingRun n).cfg.legal = true
  | 0 => by decide
  | 1 => by decide
  | n + 2 => by
    obtain ⟨k, rfl | rfl⟩ := Nat.even_or_odd' n
    · exact (pollingRun_idle k).1
    · exact (pollingRun_ticks k).1

/-- Endless polling is a fair run. -/
theorem witness_EveryCommandCompletesInFairRuns_polling :
    FairRun pollingRun ∧ (pollingRun 0).Inv ∧ (pollingRun 0).busy = true := by
  refine ⟨⟨⟨fun n => ⟨after (pollingRun n), ?_⟩⟩, fun n => ⟨2 * n + 3, by omega, (pollingRun_ticks n).2⟩⟩,
    inv_env _ _ (inv_atPoint .sCommit (by decide)) rfl, by decide⟩
  by_cases h : (pollingRun n).turns = [.host]
  · exact ⟨[.block false], [], step_after _ (pollingRun_legal n), if_pos h⟩
  · exact ⟨[.host], [.rd .status], step_after _ (pollingRun_legal n), if_neg h⟩

end Sys2Proof.Tests
end

/-! PROOFS. Who writes s.init (10_state.md R22). -/

namespace Sys2Proof.Machine

/-- What an engine move does: the engine event at s.pp, with the move's turn taken off the list. -/
theorem step_of_engine {s t : State} {e : Bool} (h : step s = .next t) (he : (nextMove s).1 = .engine e) :
    ∃ ts d, t = engineEvent e { s with turns := ts, draws := d } := by
  obtain ⟨-, ts, d, ⟨hm, -⟩ | ⟨e', hm, -, rfl⟩ | ⟨_, hm, -⟩ | ⟨hm, -⟩ | ⟨hm, -⟩⟩ := step_cases s t h
  case inr.inl =>
    obtain rfl : e' = e := Move.engine.inj (hm.symm.trans he)
    exact ⟨ts, d, rfl⟩
  all_goals cases hm.symm.trans he

/-- INIT's commit completes the command with OK and leaves the engine initialised (40_init.md R85). -/
theorem engineEvent_iCommit {s : State} (e : Bool) (h : s.pp = .iCommit) :
    (engineEvent e s).init = true ∧ (engineEvent e s).err = .ok ∧ (engineEvent e s).busy = false := by
  simp [engineEvent, h, pointICommit]

/-- No command word writes s.init in the step of its write: an accepted INIT sets it only at its commit. -/
theorem exec_init {i : Instr} {s t : State} (h : exec i s = .next t) : t.init = s.init := by
  obtain ⟨-, rfl⟩ | ⟨-, _, -, rfl, -⟩ | ⟨-, -, _, -, rfl⟩ | ⟨-, -, _, -, rfl⟩ | ⟨-, -, -, -, rfl⟩ | ⟨-, -, -, -, rfl⟩
    | ⟨-, -, -, rfl⟩ | ⟨-, -, -, rfl⟩ := exec_cases i s t h
  all_goals simp

theorem hostAccess_init {s t : State} (h : hostAccess s = .next t) : t.init = s.init := by
  obtain ⟨w, ops, -, hx⟩ | ⟨_, _, rfl⟩ | ⟨_, _, rfl⟩ := hostAccess_cases s t h
  · simpa using exec_init hx
  · rfl
  · rfl

@[simp] theorem sensorMove_init (e : SensorEvent) (s : State) : (sensorMove e s).init = s.init := by
  cases e <;> rfl

/-- Every move but INIT's commit and a reset leaves s.init as it was. -/
theorem step_init_cases {s t : State} (h : step s = .next t) :
    t.init = s.init ∨ ((∃ e, (nextMove s).1 = .engine e) ∧ s.pp = .iCommit ∧ t.init = true)
      ∨ ((nextMove s).1 = .reset ∧ t.init = false) := by
  obtain ⟨-, ts, d, ⟨-, hx⟩ | ⟨e, hm, -, rfl⟩ | ⟨e, -, rfl⟩ | ⟨-, -, rfl⟩ | ⟨hm, rfl⟩⟩ := step_cases s t h
  · exact .inl (by simpa using hostAccess_init hx)
  · rw [engineEvent_init]
    split
    · next hp => exact .inr (.inl ⟨⟨e, hm⟩, hp, rfl⟩)
    · exact .inl rfl
  · exact .inl (sensorMove_init _ _)
  · exact .inl (timeStep_init _)
  · exact .inr (.inr ⟨hm, rfl⟩)

/-- Settles O27: by the moves of a step, of which only INIT's commit and a reset write s.init. -/
theorem onlyInitAndResetWriteInit : Obligations.OnlyInitAndResetWriteInit := by
  refine ⟨fun s t h hne => (step_init_cases h).resolve_left hne, fun s t h ⟨e, he⟩ hp => ?_⟩
  obtain ⟨ts, d, rfl⟩ := step_of_engine h he
  exact engineEvent_iCommit e hp

end Sys2Proof.Machine

/-! PROOFS. The host's accesses to the registers (20_memory.md R44 to R48), and who writes s.arg (10_state.md R34). -/

namespace Sys2Proof.Machine

/-- At a host turn the host makes its next access, if it has one to make. -/
theorem step_host {s : State} {ts : List Turn} (hl : s.cfg.legal = true) (ht : s.turns = .host :: ts)
    (ha : hostHasAccess s.host = true) : step s = hostAccess { s with turns := ts } := by
  simp [step, systemStep, hl, nextMove, ht, ha, applyMove]

/-- A host turn at a read: the register's value is appended to the trace. -/
theorem step_rd {s : State} {r : Reg} {ts : List Turn} {ops : List HostOp} (hl : s.cfg.legal = true)
    (ht : s.turns = .host :: ts) (hh : s.host = .rd r :: ops) :
    step s = .next { s with turns := ts, host := ops, trace := s.trace ++ [regRead r s] } := by
  rw [step_host hl ht (by rw [hh]; rfl)]
  simp only [hostAccess, hh, skipIdle]
  cases r <;> rfl

/-- A host turn at a write: the write of the register, with turn and operation taken off. -/
theorem step_wr {s : State} {r : Reg} {v : Word} {ts : List Turn} {ops : List HostOp} (hl : s.cfg.legal = true)
    (ht : s.turns = .host :: ts) (hh : s.host = .wr r v :: ops) :
    step s = regWrite r v { s with turns := ts, host := ops } := by
  rw [step_host hl ht (by rw [hh]; rfl)]
  simp only [hostAccess, hh, skipIdle]

/-- No command word writes ARG. -/
theorem exec_arg {i : Instr} {s t : State} (h : exec i s = .next t) : t.arg = s.arg := by
  obtain ⟨-, rfl⟩ | ⟨-, _, -, rfl, -⟩ | ⟨-, -, _, -, rfl⟩ | ⟨-, -, _, -, rfl⟩ | ⟨-, -, -, -, rfl⟩ | ⟨-, -, -, -, rfl⟩
    | ⟨-, -, -, rfl⟩ | ⟨-, -, -, rfl⟩ := exec_cases i s t h
  all_goals simp

/-- Of the register writes only the one to ARG changes ARG, to the value written. -/
theorem regWrite_arg_cases {r : Reg} {v : Word} {s t : State} (h : regWrite r v s = .next t) :
    t.arg = s.arg ∨ (r = .arg ∧ t.arg = v) := by
  cases r with
  | cmd => exact .inl (exec_arg h)
  | arg => cases h; exact .inr ⟨rfl, rfl⟩
  | status => cases h; exact .inl rfl
  | result => cases h; exact .inl rfl

/-- A host access leaves ARG as it was, or is the write to ARG of the value that ARG then holds. -/
theorem hostAccess_arg_cases {s t : State} (h : hostAccess s = .next t) :
    t.arg = s.arg ∨ ∃ ops, skipIdle s.host = .wr .arg t.arg :: ops := by
  unfold hostAccess at h
  split at h
  case h_1 r v ops hs =>
    obtain he | ⟨rfl, rfl⟩ := regWrite_arg_cases h
    · exact .inl he
    · exact .inr ⟨ops, hs⟩
  case h_3 =>
    cases h
    split <;> exact .inl rfl
  all_goals cases h; exact .inl rfl

@[simp] theorem sensorMove_arg (e : SensorEvent) (s : State) : (sensorMove e s).arg = s.arg := by
  cases e <;> rfl

/-- Every move but the host's write of ARG and a reset leaves s.arg as it was. -/
theorem step_arg_cases {s t : State} (h : step s = .next t) :
    t.arg = s.arg ∨ ((nextMove s).1 = .host ∧ ∃ ops, skipIdle s.host = .wr .arg t.arg :: ops)
      ∨ ((nextMove s).1 = .reset ∧ t.arg = 0) := by
  obtain ⟨-, ts, d, ⟨hm, hx⟩ | ⟨e, -, -, rfl⟩ | ⟨e, -, rfl⟩ | ⟨-, -, rfl⟩ | ⟨hm, rfl⟩⟩ := step_cases s t h
  · exact (hostAccess_arg_cases hx).imp_right fun hw => .inl ⟨hm, hw⟩
  · exact .inl (engineEvent_arg _ _)
  · exact .inl (sensorMove_arg _ _)
  · exact .inl (timeStep_arg _)
  · exact .inr (.inr ⟨hm, rfl⟩)

/-- Settles O13: a read at a host turn is `step_rd`, whose value and the reads by index are those of `regRead`. -/
theorem hostReadHasNoSideEffect : Obligations.HostReadHasNoSideEffect := by
  refine ⟨fun s r ts ops hl ht hh => ⟨regRead r s, step_rd hl ht hh, ?_⟩, fun s => ⟨rfl, rfl, rfl, rfl⟩⟩
  cases r <;> rfl

/-- Settles O14: the writes at a host turn are `step_wr`, and what changes ARG is read from the moves of a step. -/
theorem hostWritesOfOtherRegisters : Obligations.HostWritesOfOtherRegisters :=
  ⟨fun _ _ _ _ hl ht => ⟨step_wr hl ht, step_wr hl ht, step_wr hl ht⟩,
    fun _ _ h hne => (step_arg_cases h).resolve_left hne,
    fun _ _ => ⟨rfl, rfl, rfl, rfl⟩⟩

end Sys2Proof.Machine

/-! PROOFS. The encoding (30_encoding.md R71 to R82): a word by its fields, the words of each instruction, and what an
idle engine does with a word that stands for no command. -/

namespace Sys2Proof

@[simp] theorem fieldOp_cmdWord (sel : Sel) (op : BitVec 4) : fieldOp (cmdWord sel op) = op :=
  BitVec.extractLsb'_append_eq_right

@[simp] theorem fieldSel_cmdWord (sel : Sel) (op : BitVec 4) : fieldSel (cmdWord sel op) = sel := by
  revert sel op; decide

@[simp] theorem fieldRsvd_cmdWord (sel : Sel) (op : BitVec 4) : fieldRsvd (cmdWord sel op) = 0 := by
  revert sel op; decide

/-- The three fields of R71 make up the whole word. -/
theorem append_fields (w : Word) : fieldRsvd w ++ fieldSel w ++ fieldOp w = w := by
  have hhigh : fieldRsvd w ++ fieldSel w = w.extractLsb' 4 28 := by
    unfold fieldRsvd fieldSel
    exact BitVec.extractLsb'_append_extractLsb'_eq_extractLsb' rfl
  have hword : w.extractLsb' 4 28 ++ fieldOp w = w.extractLsb' 0 32 := by
    unfold fieldOp
    exact BitVec.extractLsb'_append_extractLsb'_eq_extractLsb' rfl
  rw [hhigh, hword, BitVec.extractLsb'_eq_self]

/-- A word without reserved bits is made of its SEL and OP. -/
theorem cmdWord_fields {w : Word} (h : fieldRsvd w = 0) : cmdWord (fieldSel w) (fieldOp w) = w := by
  rw [cmdWord, ← h, append_fields]

theorem eq_cmdWord_iff {w : Word} {sel : Sel} {op : BitVec 4} :
    w = cmdWord sel op ↔ fieldOp w = op ∧ fieldRsvd w = 0 ∧ fieldSel w = sel := by
  constructor
  · rintro rfl
    simp
  · rintro ⟨rfl, h, rfl⟩
    exact (cmdWord_fields h).symm

/-- A word has a reserved bit set, or is one of the 64 words of a SEL and an OP. -/
theorem word_cases {P : Word → Prop} (w : Word) (reserved : ∀ w, fieldRsvd w ≠ 0 → P w)
    (fields : ∀ sel op, P (cmdWord sel op)) : P w := by
  by_cases h : fieldRsvd w = 0
  · exact cmdWord_fields h ▸ fields _ _
  · exact reserved w h

theorem decode_of_reserved {w : Word} (h : fieldRsvd w ≠ 0) : decode w = .illegal w := if_pos h

/-- The words of R77, by the fields that make them illegal. -/
theorem decode_eq_illegal_iff (w : Word) :
    decode w = .illegal w ↔ fieldRsvd w ≠ 0 ∨ (fieldOp w = 0 ∨ 7 ≤ fieldOp w)
      ∨ (fieldOp w ∈ [2#4, 3#4, 4#4, 5#4] ∧ fieldSel w ≠ 0) := by
  induction w using word_cases with
  | reserved w h => exact iff_of_true (decode_of_reserved h) (.inl h)
  | fields sel op => revert sel op; decide

/-- An instruction keeps the word it was decoded from. -/
theorem encode_decode (w : Word) : encode (decode w) = w := by
  induction w using word_cases with
  | reserved w h => rw [decode_of_reserved h]; rfl
  | fields sel op => revert sel op; decide

/-- No known word has a reserved bit set. -/
theorem fieldRsvd_of_known {w : Word} (h : w ∈ knownWords) : fieldRsvd w = 0 := by
  have hall : (knownWords.all fun x => fieldRsvd x == 0) = true := by decide
  simpa using List.all_eq_true.mp hall w h

theorem wf_decode (w : Word) : (decode w).wf = true := by
  induction w using word_cases with
  | reserved w h =>
    have hw : w ∉ knownWords := fun hk => h (fieldRsvd_of_known hk)
    simp [decode_of_reserved h, Instr.wf, hw]
  | fields sel op => revert sel op; decide

/-- One word decodes to a well-formed instruction that is not illegal, and none to one that is not well formed (R73,
R78). -/
theorem decode_eq_iff {w : Word} {i : Instr} (hi : i ≠ .illegal w) : decode w = i ↔ i.wf = true ∧ w = encode i := by
  constructor
  · rintro rfl
    exact ⟨wf_decode w, (encode_decode w).symm⟩
  · rintro ⟨hwf, rfl⟩
    cases i with
    | init sel => clear hi; revert sel; decide
    | setGain sel => clear hi; revert sel; decide
    | illegal v => exact absurd rfl hi
    | _ => rfl

/-- A selector operand is one of three (R76). -/
theorem exists_sel_ne_three_iff {P : Sel → Prop} : (∃ sel : Sel, (sel != 3) = true ∧ P sel) ↔ P 0 ∨ P 1 ∨ P 2 := by
  have hsel : ∀ sel : Sel, (sel != 3) = true → sel = 0 ∨ sel = 1 ∨ sel = 2 := by decide
  constructor
  · rintro ⟨sel, hne, h⟩
    obtain rfl | rfl | rfl := hsel sel hne
    · exact .inl h
    · exact .inr (.inl h)
    · exact .inr (.inr h)
  · rintro (h | h | h)
    · exact ⟨0, rfl, h⟩
    · exact ⟨1, rfl, h⟩
    · exact ⟨2, rfl, h⟩

/-- The three words of INIT (R82). -/
theorem exists_decode_eq_init_iff {w : Word} :
    (∃ sel, decode w = .init sel) ↔ w = 0x01 ∨ w = 0x11 ∨ w = 0x21 :=
  (exists_congr fun sel => decode_eq_iff (i := .init sel) nofun).trans exists_sel_ne_three_iff

/-- The three words of SET_GAIN (R82). -/
theorem exists_decode_eq_setGain_iff {w : Word} :
    (∃ sel, decode w = .setGain sel) ↔ w = 0x06 ∨ w = 0x16 ∨ w = 0x26 :=
  (exists_congr fun sel => decode_eq_iff (i := .setGain sel) nofun).trans exists_sel_ne_three_iff

end Sys2Proof

namespace Sys2Proof.Machine

/-- In an idle engine, a word that acceptance only completes leaves its status and clears OVR (60_exceptions.md R120,
R121). -/
theorem cmdWrite_complete_idle {s : State} (st : Status) (h : s.busy = false) :
    cmdWrite (complete false st) s
      = .next { s with err := st, ovr := false, busy := false, op := .none, pp := .idle } := by
  simp [cmdWrite, h, complete, acceptUpdate]

/-- Settles O2: a command without operand has its one word, and INIT and SET_GAIN have the words of three selectors. -/
theorem onlyTenWordsAreCommands : Obligations.OnlyTenWordsAreCommands := by
  refine ⟨rfl, fun w => ?_⟩
  rw [exists_decode_eq_init_iff, exists_decode_eq_setGain_iff]
  simp [decode_eq_iff, Instr.wf, encode, cmdWord, or_assoc]

/-- Settles O3: the decoder's part is `decode_eq_illegal_iff`, and the completion is that of an idle engine. -/
theorem illegalWords : Obligations.IllegalWords := fun w =>
  ⟨decode_eq_illegal_iff w, fun _ hb hw => ⟨hw ▸ cmdWrite_complete_idle .illegal hb, rfl⟩⟩

/-- Settles O4: each form has one word, here by its fields, and both complete as an idle engine does. -/
theorem invalidArgumentWords : Obligations.InvalidArgumentWords := by
  refine fun w => ⟨?_, ?_, fun s hb hw => ⟨?_, rfl⟩⟩
  · exact (decode_eq_iff (i := .invalidInit) nofun).trans ((and_iff_right rfl).trans eq_cmdWord_iff)
  · exact (decode_eq_iff (i := .invalidSetGain) nofun).trans ((and_iff_right rfl).trans eq_cmdWord_iff)
  · obtain hw | hw := hw <;> exact hw ▸ cmdWrite_complete_idle .invalidArgument hb

end Sys2Proof.Machine

/-! PROOFS. Who writes s.result (41_acquire.md R103), and sign extension (41_acquire.md R95). -/

namespace Sys2Proof.Machine

/-- READ's commit stores the sample, sets VALID and completes the command with OK (41_acquire.md R92). -/
theorem engineEvent_rCommit {s : State} (e : Bool) (h : s.pp = .rCommit) :
    (engineEvent e s).result = sext32 s.acc ∧ (engineEvent e s).valid = true ∧ (engineEvent e s).err = .ok
      ∧ (engineEvent e s).busy = false := by
  simp [engineEvent, h, pointRCommit]

/-- No command word writes RESULT in the step of its write: an accepted READ sets it only at its commit. -/
theorem exec_result {i : Instr} {s t : State} (h : exec i s = .next t) : t.result = s.result := by
  obtain ⟨-, rfl⟩ | ⟨-, _, -, rfl, -⟩ | ⟨-, -, _, -, rfl⟩ | ⟨-, -, _, -, rfl⟩ | ⟨-, -, -, -, rfl⟩ | ⟨-, -, -, -, rfl⟩
    | ⟨-, -, -, rfl⟩ | ⟨-, -, -, rfl⟩ := exec_cases i s t h
  all_goals simp

/-- No host access writes RESULT: RESULT is read-only to the host (20_memory.md R48). -/
theorem hostAccess_result {s t : State} (h : hostAccess s = .next t) : t.result = s.result := by
  obtain ⟨w, ops, -, hx⟩ | ⟨_, _, rfl⟩ | ⟨_, _, rfl⟩ := hostAccess_cases s t h
  · simpa using exec_result hx
  · rfl
  · rfl

@[simp] theorem sensorMove_result (e : SensorEvent) (s : State) : (sensorMove e s).result = s.result := by
  cases e <;> rfl

/-- Every move but READ's commit and a reset leaves s.result as it was. -/
theorem step_result_cases {s t : State} (h : step s = .next t) :
    t.result = s.result ∨ ((∃ e, (nextMove s).1 = .engine e) ∧ s.pp = .rCommit)
      ∨ ((nextMove s).1 = .reset ∧ t.result = 0) := by
  obtain ⟨-, ts, d, ⟨-, hx⟩ | ⟨e, hm, -, rfl⟩ | ⟨e, -, rfl⟩ | ⟨-, -, rfl⟩ | ⟨hm, rfl⟩⟩ := step_cases s t h
  · exact .inl (by simpa using hostAccess_result hx)
  · by_cases hp : s.pp = .rCommit
    · exact .inr (.inl ⟨⟨e, hm⟩, hp⟩)
    · exact .inl ((engineEvent_result _ _).trans (if_neg hp))
  · exact .inl (sensorMove_result _ _)
  · exact .inl (timeStep_result _)
  · exact .inr (.inr ⟨hm, resetBlock_result _⟩)

/-- Settles O30: by the moves of a step, of which only READ's commit and a reset write s.result. -/
theorem onlySuccessfulReadWritesResult : Obligations.OnlySuccessfulReadWritesResult := by
  intro s t h hne
  refine ((step_result_cases h).resolve_left hne).imp_left fun ⟨⟨e, he⟩, hp⟩ => ?_
  obtain ⟨ts, d, rfl⟩ := step_of_engine h he
  exact ⟨⟨e, he⟩, hp, engineEvent_rCommit e hp⟩

/-- Bit 23 is the sign of a conversion code (41_acquire.md R95). -/
theorem code_msb (c : Code) : c.msb = c.getLsbD 23 := c.msb_eq_getLsbD_last

/-- The bits of sext_32: eight copies of bit 23 above the code. -/
theorem sext32_eq_ite (c : Code) :
    sext32 c = if c.getLsbD 23 then 0xFF000000#32 ||| c.setWidth 32 else c.setWidth 32 := by
  split
  · next h =>
    have happ : sext32 c = BitVec.allOnes 8 ++ c := by
      simp [sext32, BitVec.signExtend_eq_append_of_le, code_msb, h]
    rw [happ, BitVec.append_def]
    rfl
  · next h => exact BitVec.signExtend_eq_setWidth_of_msb_false ((code_msb c).trans (Bool.eq_false_of_not_eq_true h))

/-- The signed value of sext_32 is that of the 24-bit code in two's complement. -/
theorem sext32_toInt (c : Code) :
    (sext32 c).toInt = (c.toNat : Int) - (if c.getLsbD 23 then 2 ^ 24 else 0) := by
  rw [sext32, BitVec.toInt_signExtend_of_le (by decide), BitVec.toInt_eq_msb_cond, code_msb]
  split <;> simp

/-- Settles O41: the commit's RESULT is `engineEvent_rCommit`, and the two forms of sext_32 are those of its bits and
of its signed value. -/
theorem signExtension : Obligations.SignExtension :=
  ⟨fun _ e hp => (engineEvent_rCommit e hp).1, fun c => ⟨sext32_eq_ite c, sext32_toInt c⟩⟩

end Sys2Proof.Machine

/-! PROOFS. Acceptance of a command word (60_exceptions.md R119 to R121), and who writes s.ovr (R122). -/

namespace Sys2Proof.Machine

/-! ## The write of a command word, by s.busy -/

theorem cmdWrite_idle {a : State → State} {s : State} (h : s.busy = false) :
    cmdWrite a s = .next (a (acceptUpdate s)) := by
  simp [cmdWrite, h]

/-- INIT's acceptance is check 3 of R119 and the start at I_CFG_SCK (40_init.md R85). -/
theorem exec_init_eq_cmdWrite (sel : Sel) (s : State) :
    exec (.init sel) s = cmdWrite (fun s =>
      if s.init then complete false .illegal s else startAt .init .iCfgSck { s with opnd := sel }) s := rfl

/-- Every instruction is a write of a command word, with an acceptance of its own (20_memory.md R46). -/
theorem exec_eq_cmdWrite (i : Instr) : ∃ a, ∀ s, exec i s = cmdWrite a s := by
  cases i with
  | init sel => exact ⟨_, exec_init_eq_cmdWrite sel⟩
  | _ => exact ⟨_, fun _ => rfl⟩

theorem exec_busy (i : Instr) {s : State} (h : s.busy = true) : exec i s = .next (dropWord s) := by
  obtain ⟨a, ha⟩ := exec_eq_cmdWrite i
  rw [ha, cmdWrite, if_pos h]

theorem exec_idle (i : Instr) {s : State} (h : s.busy = false) : ∃ t, exec i s = .next t := by
  obtain ⟨a, ha⟩ := exec_eq_cmdWrite i
  exact ⟨_, (ha s).trans (cmdWrite_idle h)⟩

/-! ## The acceptance checks -/

/-- What acceptance only completes has its status stored and OVR cleared, and VALID too for a READ that fails (R120,
R121). -/
theorem complete_acceptUpdate (isRead : Bool) (st : Status) (s : State) :
    complete isRead st (acceptUpdate s) = { s with
      err := st, ovr := false, busy := false, op := .none, pp := .idle
      valid := if isRead && st != .ok then false else s.valid } := rfl

/-- Settles O26: each command makes its own checks, of s.init first and then, for READ and WAIT_READY,
of s.asleep; a word that names no command has failed checks 1 and 2 in the decoder. -/
theorem acceptanceChecksInOrder : Obligations.AcceptanceChecksInOrder := by
  intro s w hb
  generalize decode w = i
  cases i with
  | illegal _ | invalidInit | invalidSetGain => exact ⟨_, cmdWrite_idle hb, rfl⟩
  | init sel =>
    refine ⟨_, (exec_init_eq_cmdWrite sel s).trans (cmdWrite_idle hb), ?_⟩
    cases hi : s.init <;> simp [hi, complete_acceptUpdate]
  | sleep | wake | setGain _ =>
    refine ⟨_, cmdWrite_idle hb, ?_⟩
    cases hi : s.init <;> simp [needInit, hi, complete_acceptUpdate]
  | waitReady | read =>
    refine ⟨_, cmdWrite_idle hb, ?_⟩
    cases hi : s.init <;> cases ha : s.asleep <;> simp [needInit, needAwake, hi, ha, complete_acceptUpdate]

/-! ## Who writes s.ovr -/

/-- A write of CMD leaves OVR at s.busy: a dropped word sets it, and an accepted one clears it. -/
theorem exec_ovr {i : Instr} {s t : State} (h : exec i s = .next t) : t.ovr = s.busy := by
  obtain ⟨hb, rfl⟩ | ⟨hb, _, -, rfl, -⟩ | ⟨hb, -, _, -, rfl⟩ | ⟨hb, -, _, -, rfl⟩ | ⟨hb, -, -, -, rfl⟩
    | ⟨hb, -, -, -, rfl⟩ | ⟨hb, -, -, rfl⟩ | ⟨hb, -, -, rfl⟩ := exec_cases i s t h
  all_goals simp [hb]

/-- A host access leaves OVR as it was, or is a write of CMD. -/
theorem hostAccess_ovr_cases {s t : State} (h : hostAccess s = .next t) :
    t.ovr = s.ovr ∨ ((∃ w ops, skipIdle s.host = .wr .cmd w :: ops) ∧ t.ovr = s.busy) := by
  obtain ⟨w, ops, hw, hx⟩ | ⟨_, _, rfl⟩ | ⟨_, _, rfl⟩ := hostAccess_cases s t h
  · exact .inr ⟨⟨w, ops, hw⟩, by simpa using exec_ovr hx⟩
  · exact .inl rfl
  · exact .inl rfl

@[simp] theorem sensorMove_ovr (e : SensorEvent) (s : State) : (sensorMove e s).ovr = s.ovr := by
  cases e <;> rfl

/-- Every move but the host's write of CMD and a reset leaves s.ovr as it was. -/
theorem step_ovr_cases {s t : State} (h : step s = .next t) :
    t.ovr = s.ovr
      ∨ ((nextMove s).1 = .host ∧ (∃ w ops, skipIdle s.host = .wr .cmd w :: ops) ∧ t.ovr = s.busy)
      ∨ ((nextMove s).1 = .reset ∧ t.ovr = false) := by
  obtain ⟨-, ts, d, ⟨hm, hx⟩ | ⟨e, -, -, rfl⟩ | ⟨e, -, rfl⟩ | ⟨-, -, rfl⟩ | ⟨hm, rfl⟩⟩ := step_cases s t h
  · exact (hostAccess_ovr_cases hx).imp_right fun hw => .inl ⟨hm, hw⟩
  · exact .inl (engineEvent_ovr _ _)
  · exact .inl (sensorMove_ovr _ _)
  · exact .inl (timeStep_ovr _)
  · exact .inr (.inr ⟨hm, resetBlock_ovr _⟩)

/-- Settles O32: what changes OVR is read from the moves of a step, and what a write of CMD does with it is `exec_busy`
and `exec_ovr`. -/
theorem onlyCmdWritesWriteOvr : Obligations.OnlyCmdWritesWriteOvr := by
  refine ⟨fun s t h hne => (step_ovr_cases h).resolve_left hne, fun s i => ⟨exec_busy i, fun hb => ?_⟩⟩
  obtain ⟨t, ht⟩ := exec_idle i hb
  exact ⟨t, ht, (exec_ovr ht).trans hb⟩

end Sys2Proof.Machine

/-! PROOFS. The values after reset (70_reset_and_hazards.md R134). -/

namespace Sys2Proof.Machine

/-- STATUS reads 0 when every field of R36 is 0: no flag is set, ERR is OK and s.sel is 0. -/
theorem statusWord_eq_zero {s : State} (hinit : s.init = false) (hsel : s.sel = 0) (hasleep : s.asleep = false)
    (hbusy : s.busy = false) (herr : s.err = .ok) (hvalid : s.valid = false) (hovr : s.ovr = false) :
    statusWord s = 0 := by
  simp [statusWord, hinit, hsel, hasleep, hbusy, herr, hvalid, hovr, Status.code]

@[simp] theorem resetBlock_statusWord (s : State) : statusWord (resetBlock s) = 0 :=
  statusWord_eq_zero (resetBlock_init s) (resetBlock_sel s) (resetBlock_asleep s) (resetBlock_busy s)
    (resetBlock_err s) (resetBlock_valid s) (resetBlock_ovr s)

/-- Settles O39: the fields are read off `State.reset` and off the field lemmas of `resetBlock`, and STATUS is 0
because its fields are. -/
theorem resetValues : Obligations.ResetValues := by
  intro s t ht
  obtain rfl | rfl : t = State.reset ∨ t = resetBlock s := by simpa using ht
  · simp [State.reset, statusWord_eq_zero]
  · simp

end Sys2Proof.Machine

/-! PROOFS. The round trip of the encoding (30_encoding.md sections 1 to 4). -/

namespace Sys2Proof

/-- The word of every well-formed instruction that is not illegal is a known one (30_encoding.md R78, R82). -/
theorem encode_mem_knownWords {i : Instr} (hwf : i.wf = true) (hi : ∀ w, i ≠ .illegal w) : encode i ∈ knownWords := by
  cases i with
  | illegal w => exact absurd rfl (hi w)
  | init sel => clear hi; revert sel; decide
  | setGain sel => clear hi; revert sel; decide
  | _ => decide

/-- A word that is not known stands for no instruction but its illegal one. -/
theorem decode_of_unknown {w : Word} (h : w ∉ knownWords) : decode w = .illegal w := by
  have hword := encode_decode w
  cases hd : decode w with
  | illegal v => rw [hd] at hword; exact congrArg Instr.illegal hword
  | _ => exact absurd (hword ▸ encode_mem_knownWords (wf_decode w) (by simp [hd])) h

end Sys2Proof

namespace Sys2Proof.Machine

/-- Settles O5: an illegal word is none of the known ones, and every other instruction is the one its word decodes
to. -/
theorem decodeOfEncode : Obligations.DecodeOfEncode := by
  intro i hwf
  cases i with
  | illegal w => exact decode_of_unknown (w := w) (by simpa [Instr.wf] using hwf)
  | init sel => exact (decode_eq_iff (i := .init sel) nofun).2 ⟨hwf, rfl⟩
  | setGain sel => exact (decode_eq_iff (i := .setGain sel) nofun).2 ⟨hwf, rfl⟩
  | _ => rfl

/-- Settles O6: the two halves are `wf_decode` and `encode_decode`. -/
theorem encodeOfDecode : Obligations.EncodeOfDecode := fun w => ⟨wf_decode w, encode_decode w⟩

/-- Settles O1: the decoder runs on each word. -/
theorem commandWordsDecode : Obligations.CommandWordsDecode := by
  unfold Obligations.CommandWordsDecode
  decide

end Sys2Proof.Machine

/-! PROOFS. One step: what a CMD write runs, when a step is refused, and when time passes (20_memory.md R46, R57, R59). -/

namespace Sys2Proof.Machine

/-- Settles O7: a write at a host turn is `step_wr`. -/
theorem stepRunsPresentedWord : Obligations.StepRunsPresentedWord := fun _ _ _ _ hl ht hh => step_wr hl ht hh

/-- Settles O8: the word placed is the host's next access, a write of CMD. -/
theorem stepRunsFetchWord : Obligations.StepRunsFetchWord := by
  intro s nbits w i hl hd
  have hword : decode (tableWord nbits w) = i := by
    unfold decodeTableWord at hd
    split at hd
    · exact Option.some.inj hd
    · cases hd
  rw [← hword]
  exact step_wr (s := s.withFetchWord nbits w) hl rfl rfl

theorem step_of_legal {s : State} (hl : s.cfg.legal = true) : ∃ t, step s = .next t := by
  simpa [step, systemStep, hl] using applyMove_next _ _

theorem step_of_not_legal {s : State} (hl : ¬s.cfg.legal = true) : step s = .refused .illegalConfig := by
  simp [step, systemStep, hl]

/-- Settles O9: the ranges are those of `legal_iff`, and only the legality check refuses a step. -/
theorem onlyIllegalConfigIsRefused : Obligations.OnlyIllegalConfigIsRefused := fun s =>
  ⟨fun hl => step_of_not_legal (mt (legal_iff s.cfg).1 hl), fun hl => step_of_legal ((legal_iff s.cfg).2 hl)⟩

/-- Settles O10: a block turn is the event when one is enabled and the time step otherwise. -/
theorem engineEventsAreUrgent : Obligations.EngineEventsAreUrgent := by
  intro s e ts hl ht
  simp only [← engineEnabled_iff]
  split
  · next he => exact step_block_event s e ts hl ht he
  · next he => exact step_block_tick s e ts hl ht (Bool.eq_false_of_not_eq_true he)

/-! ## What the host cannot touch -/

/-- What no host access can change (20_memory.md R42): the configuration, time, the lines with the sensor behind them, a
READ's data, and the fields that only a command's own events write. -/
structure HostFrame (s t : State) : Prop where
  cfg : t.cfg = s.cfg
  init : t.init = s.init
  asleep : t.asleep = s.asleep
  result : t.result = s.result
  acc : t.acc = s.acc
  bit : t.bit = s.bit
  trail : t.trail = s.trail
  due : t.due = s.due
  now : t.now = s.now
  sckMode : t.sckMode = s.sckMode
  doutMode : t.doutMode = s.doutMode
  sck : t.sck = s.sck
  doutDrive : t.doutDrive = s.doutDrive
  doutFloat : t.doutFloat = s.doutFloat
  sensor : t.sensor = s.sensor

theorem exec_frame {i : Instr} {s t : State} (h : exec i s = .next t) : HostFrame s t := by
  obtain ⟨-, rfl⟩ | ⟨-, _, -, rfl, -⟩ | ⟨-, -, _, -, rfl⟩ | ⟨-, -, _, -, rfl⟩ | ⟨-, -, -, -, rfl⟩ | ⟨-, -, -, -, rfl⟩
    | ⟨-, -, -, rfl⟩ | ⟨-, -, -, rfl⟩ := exec_cases i s t h
  all_goals constructor <;> rfl

theorem hostAccess_frame {s t : State} (h : hostAccess s = .next t) : HostFrame s t := by
  obtain ⟨w, ops, -, hx⟩ | ⟨_, _, rfl⟩ | ⟨_, _, rfl⟩ := hostAccess_cases s t h
  · obtain ⟨⟩ := exec_frame hx
    constructor <;> assumption
  · constructor <;> rfl
  · constructor <;> rfl

@[simp] theorem sensorMove_now (e : SensorEvent) (s : State) : (sensorMove e s).now = s.now := by
  cases e <;> rfl

/-- Settles O11: by the moves of a step, of which only the time step and the reset write now. -/
theorem timeMovesOnlyByTimeStep : Obligations.TimeMovesOnlyByTimeStep := by
  intro s t h
  obtain ⟨-, ts, d, ⟨hm, hx⟩ | ⟨e, hm, -, rfl⟩ | ⟨e, hm, rfl⟩ | ⟨hm, he, rfl⟩ | ⟨hm, rfl⟩⟩ := step_cases s t h
  · exact .inl ⟨(hostAccess_frame hx).now, by simp [hm]⟩
  · exact .inl ⟨engineEvent_now _ _, by simp [hm]⟩
  · exact .inl ⟨sensorMove_now _ _, by simp [hm]⟩
  · exact .inr (.inl ⟨rfl, hm, he⟩)
  · exact .inr (.inr ⟨rfl, hm⟩)

/-! ## STATUS and the host's program -/

/-- The fields of a word made of flags above one another, lowest first (10_state.md R36). -/
theorem extract_status (sel : Sel) (err : BitVec 3) (ovr valid asleep init busy : BitVec 1) :
    ∀ w : Word, w = (sel ++ err ++ ovr ++ valid ++ asleep ++ init ++ busy).setWidth 32 →
      w.extractLsb' 0 1 = busy ∧ w.extractLsb' 1 1 = init ∧ w.extractLsb' 2 1 = asleep ∧ w.extractLsb' 3 1 = valid
        ∧ w.extractLsb' 4 1 = ovr ∧ w.extractLsb' 5 3 = err ∧ w.extractLsb' 8 2 = sel ∧ w.extractLsb' 10 22 = 0 := by
  rintro w rfl
  revert sel err ovr valid asleep init busy
  decide

/-- Settles O12: STATUS is the concatenation of its fields. -/
theorem statusFields : Obligations.StatusFields :=
  ⟨fun _ => extract_status _ _ _ _ _ _ _ _ rfl, by decide⟩

end Sys2Proof.Machine

/-! PROOFS. What the write of a command word does (60_exceptions.md R119 to R122), the host's program (30_encoding.md
R81, R83), several instances, and the reset. -/

namespace Sys2Proof.Machine

/-! ## The write of a command word -/

/-- Settles O16: it is `exec_busy`. -/
theorem wordDroppedWhileBusy : Obligations.WordDroppedWhileBusy := fun _ i hb => exec_busy i hb

/-- Settles O17: check 3 passes. -/
theorem initIsAccepted : Obligations.InitIsAccepted := by
  intro s sel hb hi
  rw [exec_init_eq_cmdWrite, cmdWrite_idle hb]
  exact congrArg _ (if_neg (by simp [hi]))

/-- Settles O18: check 3 fails. -/
theorem secondInitIsIllegal : Obligations.SecondInitIsIllegal := by
  intro s sel hb hi
  rw [exec_init_eq_cmdWrite, cmdWrite_idle hb]
  exact congrArg _ (if_pos hi)

/-- Checks 4 and 5 of R119 pass in an initialised, awake engine. -/
theorem needInit_passed {isRead : Bool} {k : State → State} {s : State} (h : s.init = true) :
    needInit isRead k s = k s := if_pos h

theorem needAwake_passed {isRead : Bool} {k : State → State} {s : State} (h : s.asleep = false) :
    needAwake isRead k s = k s := by
  simp [needAwake, h]

/-- They fail before initialisation and in an asleep engine. -/
theorem needInit_failed {isRead : Bool} {k : State → State} {s : State} (h : s.init = false) :
    needInit isRead k s = complete isRead .notInitialized s := by
  simp [needInit, h]

theorem needAwake_failed {isRead : Bool} {k : State → State} {s : State} (h : s.asleep = true) :
    needAwake isRead k s = complete isRead .asleep s := if_pos h

/-- An idle, initialised, awake engine starts a WAIT_READY. -/
theorem exec_waitReady {s : State} (hb : s.busy = false) (hi : s.init = true) (ha : s.asleep = false) :
    exec .waitReady s = .next (startAt .waitReady .wSample (startWait (argTimeout s.arg) (acceptUpdate s))) := by
  refine (cmdWrite_idle hb).trans ?_
  rw [needInit_passed (by exact hi), needAwake_passed (by exact ha)]
  rfl

/-- An idle, initialised, awake engine starts a READ. -/
theorem exec_read {s : State} (hb : s.busy = false) (hi : s.init = true) (ha : s.asleep = false) :
    exec .read s = .next (startAt .read .rwSample (startWait (readTimeout s.cfg) (acceptUpdate s))) := by
  refine (cmdWrite_idle hb).trans ?_
  rw [needInit_passed (by exact hi), needAwake_passed (by exact ha)]
  rfl

/-- An idle, initialised engine starts a SLEEP and a WAKE. -/
theorem exec_sleep {s : State} (hb : s.busy = false) (hi : s.init = true) :
    exec .sleep s = .next (startAt .sleep .sSet (acceptUpdate s)) :=
  (cmdWrite_idle hb).trans (by rw [needInit_passed (by exact hi)])

theorem exec_wake {s : State} (hb : s.busy = false) (hi : s.init = true) :
    exec .wake s = .next (startAt .wake .kSet (acceptUpdate s)) :=
  (cmdWrite_idle hb).trans (by rw [needInit_passed (by exact hi)])

/-- The product of R75 does not overflow. -/
theorem argTimeout_toNat (arg : Word) : (argTimeout arg).toNat = arg.toNat * 1000 := by
  have := arg.isLt
  simp [argTimeout, BitVec.toNat_mul]
  omega

theorem readTimeout_toNat {c : Config} (hl : c.legal = true) : (readTimeout c).toNat = msTicks c.tReadTimeoutMs := by
  obtain ⟨-, -, -, -, -, ⟨-, h⟩, -⟩ := (legal_iff c).1 hl
  simp only [readTimeout, ticks, msTicks, BitVec.toNat_ofNat]
  omega

/-- Settles O19: both checks pass. -/
theorem waitReadyIsAccepted : Obligations.WaitReadyIsAccepted := fun s hb hi ha =>
  ⟨_, exec_waitReady hb hi ha, rfl, argTimeout_toNat s.arg⟩

/-- Settles O20: both checks pass. -/
theorem readIsAccepted : Obligations.ReadIsAccepted := fun _ hl hb hi ha =>
  ⟨_, exec_read hb hi ha, rfl, readTimeout_toNat hl⟩

/-- Settles O21: check 4 passes, and there is no other. -/
theorem powerCommandsAreAccepted : Obligations.PowerCommandsAreAccepted := fun _ hb hi =>
  ⟨exec_sleep hb hi, exec_wake hb hi⟩

/-- Settles O22: check 4 passes. -/
theorem setGainCompletes : Obligations.SetGainCompletes := by
  intro s sel hb hi
  refine (cmdWrite_idle hb).trans ?_
  rw [needInit_passed (by exact hi)]
  simp [finish, complete, acceptUpdate]

/-- Settles O23: check 4 fails. -/
theorem notInitializedRejection : Obligations.NotInitializedRejection := by
  intro s sel hb hi
  have hrejected : ∀ isRead k, cmdWrite (needInit isRead k) s
      = .next (complete isRead .notInitialized (acceptUpdate s)) := fun isRead k =>
    (cmdWrite_idle hb).trans (congrArg _ (needInit_failed hi))
  refine ⟨fun i hmem => ?_, hrejected true _⟩
  simp only [List.mem_cons, List.not_mem_nil, or_false] at hmem
  obtain rfl | rfl | rfl | rfl := hmem <;> exact hrejected false _

/-- Settles O24: check 4 passes and check 5 fails. -/
theorem asleepRejection : Obligations.AsleepRejection := by
  intro s hb hi ha
  have hrejected : ∀ isRead k, cmdWrite (needInit isRead (needAwake isRead k)) s
      = .next (complete isRead .asleep (acceptUpdate s)) := fun isRead k =>
    (cmdWrite_idle hb).trans (congrArg _ ((needInit_passed (by exact hi)).trans (needAwake_failed ha)))
  exact ⟨hrejected false _, hrejected true _⟩

/-- Settles O25: acceptance only completes these words. -/
theorem badWordsCompleteAtOnce : Obligations.BadWordsCompleteAtOnce := by
  intro s w hb
  refine ⟨cmdWrite_complete_idle .illegal hb, fun i hmem => ?_⟩
  simp only [List.mem_cons, List.not_mem_nil, or_false] at hmem
  obtain rfl | rfl := hmem <;> exact cmdWrite_complete_idle .invalidArgument hb

/-! ## The host's program -/

/-- A host turn at a `sync` waits while a command runs. -/
theorem step_sync {s : State} {ts : List Turn} {ops : List HostOp} (hl : s.cfg.legal = true)
    (ht : s.turns = .host :: ts) (hh : s.host = .sync :: ops) :
    step s = .next (if s.busy then { s with turns := ts }
      else { s with turns := ts, host := ops, trace := s.trace ++ [statusWord s] }) := by
  rw [step_host hl ht (by rw [hh]; rfl)]
  simp only [hostAccess, hh, skipIdle]
  rfl

/-- While `idle n` leads the program, k < n time steps leave `idle (n - k)` there. -/
theorem waited_host_idle {n k : Nat} {s : State} {ops : List HostOp} (hh : s.host = .idle n :: ops) (hk : k < n) :
    (waited k s).host = .idle (n - k) :: ops := by
  induction k generalizing s n with
  | zero => simpa [waited] using hh
  | succ k ih =>
    obtain ⟨m, rfl⟩ : ∃ m, n = m + 2 := ⟨n - 2, by omega⟩
    have htick : (timeStep s).host = .idle (m + 1) :: ops := by simp [hh, hostTick]
    have h := ih htick (by omega)
    rwa [show m + 1 - k = m + 2 - (k + 1) by omega] at h

/-- After n time steps it is gone. -/
theorem waited_host_done {n : Nat} {s : State} {ops : List HostOp} (hh : s.host = .idle n :: ops) (hn : 0 < n) :
    (waited n s).host = ops := by
  obtain ⟨m, rfl⟩ : ∃ m, n = m + 1 := ⟨n - 1, by omega⟩
  have hlast := waited_host_idle hh (Nat.lt_succ_self m)
  rw [waited, Function.iterate_succ_apply', timeStep_host]
  exact (congrArg hostTick hlast).trans (by simp [hostTick])

/-- At an `idle` that is not over the next move is no host access. -/
theorem nextMove_ne_host_of_idle {s : State} {n : Nat} {ops : List HostOp} (hh : s.host = .idle (n + 1) :: ops) :
    (nextMove s).1 ≠ .host := by
  intro h
  have := nextMove_host s h
  simp [hh, hostHasAccess, skipIdle] at this

/-- An `idle 0` is passed over. -/
theorem nextMove_host_of_idle_zero {s : State} {op : HostOp} {ops : List HostOp} {ts : List Turn}
    (hop : ∀ m, op ≠ .idle m) (hh : s.host = .idle 0 :: op :: ops) (ht : s.turns = .host :: ts) :
    (nextMove s).1 = .host := by
  have haccess : hostHasAccess s.host = true := by
    cases op with
    | idle m => exact absurd rfl (hop m)
    | _ => simp [hh, hostHasAccess, skipIdle]
  simp [nextMove, ht, haccess]

/-- Settles O15: `sync` is `step_sync`, the expansions are those of the definitions, and `idle n` is counted down by
n time steps. -/
theorem syncWaitsForCompletion : Obligations.SyncWaitsForCompletion := by
  refine ⟨fun s ts ops hl ht hh => step_sync hl ht hh, fun _ => rfl, fun _ => rfl, rfl,
    fun s n k ops hh hk => ⟨?_, waited_host_done hh (by omega)⟩,
    fun s op ops ts hop hh ht => nextMove_host_of_idle_zero hop hh ht⟩
  obtain ⟨m, hm⟩ : ∃ m, n - k = m + 1 := ⟨n - k - 1, by omega⟩
  exact nextMove_ne_host_of_idle (hm ▸ waited_host_idle hh hk)

/-! ## Several instances -/

/-- Settles O38: a step of the k-th engine replaces that one of the list and no other. -/
theorem instancesShareNoState : Obligations.InstancesShareNoState := by
  intro x y k j h hjk
  unfold Instances.stepAt at h
  split at h
  · cases h; exact ⟨rfl, rfl⟩
  · split at h
    · cases h; simp [List.getElem?_set_ne hjk.symm]
    · cases h
    · cases h

/-! ## Reset -/

/-- Settles O40: the step at a reset turn is `resetBlock`, whose fields are read off its lemmas. -/
theorem resetLeavesLines : Obligations.ResetLeavesLines := by
  intro s ts hl ht
  refine ⟨resetBlock { s with turns := ts }, by simp [step, systemStep, hl, nextMove, ht, applyMove], ?_⟩
  exact ⟨rfl, rfl, rfl, rfl, rfl, rfl, rfl, rfl, rfl, rfl, rfl, rfl, rfl, rfl, rfl, rfl, rfl, rfl,
    resetBlock_statusWord _, rfl, resetBlock_dout _, rfl, rfl, resetBlock_known _, rfl⟩

/-- Settles O53: the decidable clauses are evaluated, and RESULT is sext_32 of 0. -/
theorem invAtReset : Obligations.InvAtReset := Tests.inv_of State.reset 0 (by decide) trivial (by decide)

/-- Settles O55: at reset the sensor's state is not known and no conversion is ready or read. -/
theorem sensorInvAtReset : Obligations.SensorInvAtReset where
  lowWakes := fun _ => rfl
  unknownUntilInit := fun _ _ => rfl
  initEndsDoubt := by decide
  readyFresh := by decide
  readCounted := by decide
  sckLow := nofun
  high := nofun
  poweredUp := nofun
  settled := nofun
  reads := nofun

end Sys2Proof.Machine

/-! PROOFS. What an engine event does to the whole state: every way out of every program point, said once (10_state.md
R29 to R31). -/

namespace Sys2Proof.Machine

/-- The point that the end of a Delay leads to (40_init.md to 42_power.md). -/
def afterDelay (s : State) : Point :=
  match s.pp with
  | .iSettle => .iCommit
  | .wPoll => .wSample
  | .rwPoll => .rwSample
  | .dHigh => .dSample
  | .dLow => if s.bit < 24 then .dRise else .tRise
  | .tHigh => .tFall
  | .tLow => if s.trail < trailingPulses s.sel then .tRise else .rCommit
  | .sHold => .sCommit
  | .kSettle => .kCommit
  | .idle | .iCfgSck | .iCfgDout | .iCommit | .wSample | .rwSample | .dRise | .dSample | .dFall | .tRise | .tFall
  | .rCommit | .sSet | .sCommit | .kSet | .kCommit => .idle

/-- The ways out of the program points: what the event finds, and the state after it. -/
inductive EventTo (e : Bool) (s : State) : State → Prop where
  | idle (hp : s.pp = .idle) : EventTo e s s
  | cfgFails (hp : s.pp = .iCfgSck ∨ s.pp = .iCfgDout) (hf : pinFails e s = true) :
      EventTo e s (raiseStatus .configError s)
  | cfgSck (hp : s.pp = .iCfgSck) (hf : pinFails e s = false) :
      EventTo e s (goTo .iCfgDout { powerUpSensor s.sensor (driveSck 0 s) with sckMode := .output })
  | cfgDout (hp : s.pp = .iCfgDout) (hf : pinFails e s = false) :
      EventTo e s (holdAt .iSettle (settleTicks s.cfg)
        { s with doutMode := .inputPullup, sensor := s.sensor.configured })
  | iCommit (hp : s.pp = .iCommit) :
      EventTo e s (finish { s with sel := s.opnd, init := true, asleep := false })
  | getFails (hp : s.pp ∈ [Point.wSample, .rwSample, .dSample]) (hf : pinFails e s = true) : EventTo e s (raiseIo s)
  | setFails (hp : s.pp ∈ [Point.dRise, .dFall, .tRise, .tFall, .sSet, .kSet]) (hf : pinFails e s = true) :
      EventTo e s (raiseIo { driveSck (Config.freeLevel s.stream s.draws) s with draws := s.draws + 1 })
  | found (hp : s.pp = .wSample) (hf : pinFails e s = false) (hd : s.dout = 0) : EventTo e s (finish s)
  | readFound (hp : s.pp = .rwSample) (hf : pinFails e s = false) (hd : s.dout = 0) :
      EventTo e s (goTo .dRise { s with acc := 0, bit := 0, trail := 0 })
  | timedOut (hp : s.pp = .wSample ∨ s.pp = .rwSample) (hf : pinFails e s = false) (hd : s.dout = 1)
      (ht : s.tmo ≤ elapsed s) : EventTo e s (raiseStatus .notReady s)
  | poll (q : Point) (hp : s.pp = .wSample ∧ q = .wPoll ∨ s.pp = .rwSample ∧ q = .rwPoll)
      (hf : pinFails e s = false) (hd : s.dout = 1) (ht : elapsed s < s.tmo) :
      EventTo e s (holdAt q s.cfg.tPollUs s)
  | rise (q : Point) (hp : s.pp = .dRise ∧ q = .dHigh ∨ s.pp = .tRise ∧ q = .tHigh) (hf : pinFails e s = false) :
      EventTo e s (holdAt q s.cfg.tHighUs (driveSck 1 s))
  | sample (hp : s.pp = .dSample) (hf : pinFails e s = false) :
      EventTo e s (goTo .dFall { s with acc := shiftIn s.acc s.dout, bit := s.bit + 1 })
  | dFall (hp : s.pp = .dFall) (hf : pinFails e s = false) :
      EventTo e s (holdAt .dLow s.cfg.tLowUs (driveSck 0 s))
  | tFall (hp : s.pp = .tFall) (hf : pinFails e s = false) :
      EventTo e s (holdAt .tLow s.cfg.tLowUs { driveSck 0 s with trail := s.trail + 1 })
  | rCommit (hp : s.pp = .rCommit) : EventTo e s (finish { s with result := sext32 s.acc, valid := true })
  | sSet (hp : s.pp = .sSet) (hf : pinFails e s = false) :
      EventTo e s (holdAt .sHold s.cfg.tSleepUs (driveSck 1 s))
  | sCommit (hp : s.pp = .sCommit) : EventTo e s (finish { s with asleep := true })
  | kSet (hp : s.pp = .kSet) (hf : pinFails e s = false) :
      EventTo e s (holdAt .kSettle (settleTicks s.cfg) (wakeSensor s.sensor (driveSck 0 s)))
  | kCommit (hp : s.pp = .kCommit) : EventTo e s (finish { s with asleep := false })
  | delayEnds (hp : s.pp.isDelay = true) : EventTo e s (goTo (afterDelay s) s)

/-- A `try` of PinSet by whether the pin fails. -/
theorem tryPinSet_cases (l : Level) (e : Bool) (s : State) (k : State → State) :
    (pinFails e s = true ∧ tryPin (pinSetSck l e s) raiseIo k
        = raiseIo { driveSck (Config.freeLevel s.stream s.draws) s with draws := s.draws + 1 })
      ∨ (pinFails e s = false ∧ tryPin (pinSetSck l e s) raiseIo k = k (driveSck l s)) := by
  obtain ⟨hf, hr⟩ | ⟨hf, hr⟩ := pinSetSck_cases l e s
  · exact .inl ⟨hf, by rw [hr, tryPin_false]⟩
  · exact .inr ⟨hf, by rw [hr, tryPin_true]⟩

/-- A ready sample by what it finds (41_acquire.md R90, R92). -/
theorem readySample_cases (e : Bool) (onErr onReady : State → State) (q : Point) (s : State) :
    (pinFails e s = true ∧ readySample e onErr onReady q s = onErr s)
      ∨ (pinFails e s = false ∧ s.dout = 0 ∧ readySample e onErr onReady q s = onReady s)
      ∨ (pinFails e s = false ∧ s.dout = 1 ∧ s.tmo ≤ elapsed s
        ∧ readySample e onErr onReady q s = raiseStatus .notReady s)
      ∨ (pinFails e s = false ∧ s.dout = 1 ∧ elapsed s < s.tmo
        ∧ readySample e onErr onReady q s = holdAt q s.cfg.tPollUs s) := by
  obtain ⟨hf, hr⟩ | ⟨hf, hr⟩ := pinGetDout_cases e s
  · exact .inl ⟨hf, by simp [readySample, hr]⟩
  · obtain hd | hd := level_cases s.dout
    · exact .inr (.inl ⟨hf, hd, by simp [readySample, hr, hd]⟩)
    · by_cases ht : s.tmo ≤ elapsed s
      · exact .inr (.inr (.inl ⟨hf, hd, ht, by simp [readySample, hr, hd, ht]⟩))
      · exact .inr (.inr (.inr ⟨hf, hd, BitVec.not_le.1 ht, by simp [readySample, hr, hd, ht]⟩))

/-- The engine event at s.pp takes one of these ways. -/
theorem engineEvent_spec (e : Bool) (s : State) : EventTo e s (engineEvent e s) := by
  have delay : ∀ {t : State}, s.pp.isDelay = true → goTo (afterDelay s) s = t → EventTo e s t := by
    rintro t hp rfl
    exact .delayEnds hp
  unfold engineEvent
  split
  case h_1 hp => exact .idle hp
  case h_2 hp =>
    unfold pointICfgSck
    obtain ⟨hf, hr⟩ | ⟨hf, hr⟩ := pinCfgSck_cases e s <;> rw [hr]
    · exact .cfgFails (.inl hp) hf
    · exact .cfgSck hp hf
  case h_3 hp =>
    unfold pointICfgDout
    obtain ⟨hf, hr⟩ | ⟨hf, hr⟩ := pinCfgDout_cases e s <;> rw [hr]
    · exact .cfgFails (.inr hp) hf
    · exact .cfgDout hp hf
  case h_5 hp => exact .iCommit hp
  case h_6 hp =>
    unfold pointWSample
    obtain ⟨hf, hr⟩ | ⟨hf, hd, hr⟩ | ⟨hf, hd, ht, hr⟩ | ⟨hf, hd, ht, hr⟩ :=
      readySample_cases e raiseIo finish .wPoll s <;> rw [hr]
    · exact .getFails (by simp [hp]) hf
    · exact .found hp hf hd
    · exact .timedOut (.inl hp) hf hd ht
    · exact .poll _ (.inl ⟨hp, rfl⟩) hf hd ht
  case h_8 hp =>
    unfold pointRwSample
    obtain ⟨hf, hr⟩ | ⟨hf, hd, hr⟩ | ⟨hf, hd, ht, hr⟩ | ⟨hf, hd, ht, hr⟩ := readySample_cases e raiseIo _ .rwPoll s <;>
      rw [hr]
    · exact .getFails (by simp [hp]) hf
    · exact .readFound hp hf hd
    · exact .timedOut (.inr hp) hf hd ht
    · exact .poll _ (.inr ⟨hp, rfl⟩) hf hd ht
  case h_10 hp =>
    unfold pointDRise
    obtain ⟨hf, hr⟩ | ⟨hf, hr⟩ := tryPinSet_cases 1 e s (holdAt .dHigh s.cfg.tHighUs) <;> rw [hr]
    · exact .setFails (by simp [hp]) hf
    · exact .rise _ (.inl ⟨hp, rfl⟩) hf
  case h_12 hp =>
    unfold pointDSample
    obtain ⟨hf, hr⟩ | ⟨hf, hr⟩ := pinGetDout_cases e s <;> rw [hr]
    · exact .getFails (by simp [hp]) hf
    · exact .sample hp hf
  case h_13 hp =>
    unfold pointDFall
    obtain ⟨hf, hr⟩ | ⟨hf, hr⟩ := tryPinSet_cases 0 e s (holdAt .dLow s.cfg.tLowUs) <;> rw [hr]
    · exact .setFails (by simp [hp]) hf
    · exact .dFall hp hf
  case h_15 hp =>
    unfold pointTRise
    obtain ⟨hf, hr⟩ | ⟨hf, hr⟩ := tryPinSet_cases 1 e s (holdAt .tHigh s.cfg.tHighUs) <;> rw [hr]
    · exact .setFails (by simp [hp]) hf
    · exact .rise _ (.inr ⟨hp, rfl⟩) hf
  case h_17 hp =>
    unfold pointTFall
    obtain ⟨hf, hr⟩ | ⟨hf, hr⟩ := tryPinSet_cases 0 e s
      (fun s => holdAt .tLow s.cfg.tLowUs { s with trail := s.trail + 1 }) <;> rw [hr]
    · exact .setFails (by simp [hp]) hf
    · exact .tFall hp hf
  case h_19 hp => exact .rCommit hp
  case h_20 hp =>
    unfold pointSSet
    obtain ⟨hf, hr⟩ | ⟨hf, hr⟩ := tryPinSet_cases 1 e s (holdAt .sHold s.cfg.tSleepUs) <;> rw [hr]
    · exact .setFails (by simp [hp]) hf
    · exact .sSet hp hf
  case h_22 hp => exact .sCommit hp
  case h_23 hp =>
    unfold pointKSet
    obtain ⟨hf, hr⟩ | ⟨hf, hr⟩ := tryPinSet_cases 0 e s
      (fun t => holdAt .kSettle (settleTicks t.cfg) (wakeSensor s.sensor t)) <;> rw [hr]
    · exact .setFails (by simp [hp]) hf
    · exact .kSet hp hf
  case h_25 hp => exact .kCommit hp
  all_goals next hp => exact delay (by rw [hp]; rfl) (by simp only [afterDelay, hp]; rfl)

/-- The ways exclude each other: each is the event's. -/
theorem EventTo.eq {e : Bool} {s t : State} (h : EventTo e s t) : engineEvent e s = t := by
  unfold engineEvent
  cases h with
  | idle hp => rw [hp]
  | cfgFails hp hf =>
    obtain hp | hp := hp <;> rw [hp] <;> simp [pointICfgSck, pointICfgDout, pinCfgSck, pinCfgDout, hf]
  | cfgSck hp hf => rw [hp]; simp [pointICfgSck, pinCfgSck, hf]
  | cfgDout hp hf => rw [hp]; simp [pointICfgDout, pinCfgDout, hf, hp]
  | getFails hp hf =>
    simp only [List.mem_cons, List.not_mem_nil, or_false] at hp
    obtain hp | hp | hp := hp <;> rw [hp] <;>
      simp [pointWSample, pointRwSample, pointDSample, readySample, pinGetDout, hf]
  | setFails hp hf =>
    simp only [List.mem_cons, List.not_mem_nil, or_false] at hp
    obtain hp | hp | hp | hp | hp | hp := hp <;> rw [hp] <;>
      simp [pointDRise, pointDFall, pointTRise, pointTFall, pointSSet, pointKSet, pinSetSck, hf]
  | found hp hf hd => rw [hp]; simp [pointWSample, readySample, pinGetDout, hf, hd]
  | readFound hp hf hd => rw [hp]; simp [pointRwSample, readySample, pinGetDout, hf, hd, hp]
  | timedOut hp hf hd ht =>
    obtain hp | hp := hp <;> rw [hp] <;> simp [pointWSample, pointRwSample, readySample, pinGetDout, hf, hd, ht]
  | poll q hp hf hd ht =>
    have ht : ¬s.tmo ≤ elapsed s := BitVec.not_le.2 ht
    obtain ⟨hp, rfl⟩ | ⟨hp, rfl⟩ := hp <;> rw [hp] <;>
      simp [pointWSample, pointRwSample, readySample, pinGetDout, hf, hd, ht]
  | rise q hp hf =>
    obtain ⟨hp, rfl⟩ | ⟨hp, rfl⟩ := hp <;> rw [hp] <;> simp [pointDRise, pointTRise, pinSetSck, hf]
  | sample hp hf => rw [hp]; simp [pointDSample, pinGetDout, hf, hp]
  | dFall hp hf => rw [hp]; simp [pointDFall, pinSetSck, hf]
  | tFall hp hf => rw [hp]; simp [pointTFall, pinSetSck, hf]
  | sSet hp hf => rw [hp]; simp [pointSSet, pinSetSck, hf]
  | kSet hp hf => rw [hp]; simp [pointKSet, pinSetSck, hf]
  | iCommit hp | rCommit hp | sCommit hp | kCommit hp => rw [hp]; rfl
  | delayEnds hp =>
    cases hpp : s.pp <;> simp only [hpp, Point.isDelay, Bool.false_eq_true] at hp <;> simp only [afterDelay, hpp] <;>
      rfl

end Sys2Proof.Machine

/-! PROOFS. Who writes s.sel, s.asleep and s.valid (10_state.md R23 to R25), what a failed command leaves
(60_exceptions.md R123), and who touches the lines (20_memory.md R42, R55). -/

namespace Sys2Proof.Machine

/-! ## s.sel -/

/-- Of the command words only an accepted SET_GAIN writes s.sel in the step of its write. -/
theorem exec_sel_cases {i : Instr} {s t : State} (h : exec i s = .next t) :
    t.sel = s.sel ∨ (s.busy = false ∧ s.init = true ∧ i = .setGain t.sel) := by
  obtain ⟨-, rfl⟩ | ⟨-, _, -, rfl, -⟩ | ⟨hb, hi, _, rfl, rfl⟩ | ⟨-, -, _, -, rfl⟩ | ⟨-, -, -, -, rfl⟩ | ⟨-, -, -, -, rfl⟩
    | ⟨-, -, -, rfl⟩ | ⟨-, -, -, rfl⟩ := exec_cases i s t h
  case inr.inr.inl => exact .inr ⟨hb, hi, rfl⟩
  all_goals exact .inl rfl

theorem hostAccess_sel_cases {s t : State} (h : hostAccess s = .next t) :
    t.sel = s.sel ∨ (s.busy = false ∧ s.init = true
      ∧ ∃ w ops, skipIdle s.host = .wr .cmd w :: ops ∧ decode w = .setGain t.sel) := by
  obtain ⟨w, ops, hw, hx⟩ | ⟨_, _, rfl⟩ | ⟨_, _, rfl⟩ := hostAccess_cases s t h
  · exact (exec_sel_cases hx).imp_right fun ⟨hb, hi, hd⟩ => ⟨hb, hi, w, ops, hw, hd⟩
  · exact .inl rfl
  · exact .inl rfl

@[simp] theorem sensorMove_sel (e : SensorEvent) (s : State) : (sensorMove e s).sel = s.sel := by
  cases e <;> rfl

/-- Settles O28: by the moves of a step. -/
theorem onlyInitAndSetGainWriteSel : Obligations.OnlyInitAndSetGainWriteSel := by
  intro s t h hne
  obtain ⟨-, ts, d, ⟨hm, hx⟩ | ⟨e, hm, -, rfl⟩ | ⟨e, -, rfl⟩ | ⟨-, -, rfl⟩ | ⟨hm, rfl⟩⟩ := step_cases s t h
  · exact .inr (.inl ⟨hm, (hostAccess_sel_cases hx).resolve_left hne⟩)
  · rw [engineEvent_sel] at hne ⊢
    by_cases hp : s.pp = .iCommit
    · exact .inl ⟨⟨e, hm⟩, hp, if_pos hp⟩
    · exact absurd (if_neg hp) hne
  · exact absurd (sensorMove_sel _ _) hne
  · exact absurd rfl hne
  · exact .inr (.inr ⟨hm, rfl⟩)

/-! ## s.asleep -/

@[simp] theorem sensorMove_asleep (e : SensorEvent) (s : State) : (sensorMove e s).asleep = s.asleep := by
  cases e <;> rfl

/-- The commits of SLEEP, WAKE and INIT complete the command with OK. -/
theorem engineEvent_powerCommit {s : State} (e : Bool) (h : s.pp = .sCommit ∨ s.pp = .kCommit ∨ s.pp = .iCommit) :
    (engineEvent e s).busy = false ∧ (engineEvent e s).err = .ok := by
  obtain h | h | h := h
  · rw [(EventTo.sCommit h).eq]; exact ⟨rfl, rfl⟩
  · rw [(EventTo.kCommit h).eq]; exact ⟨rfl, rfl⟩
  · rw [(EventTo.iCommit h).eq]; exact ⟨rfl, rfl⟩

/-- Settles O29: by the moves of a step, of which only these three commits and a reset write s.asleep. -/
theorem onlyPowerCommandsWriteAsleep : Obligations.OnlyPowerCommandsWriteAsleep := by
  intro s t h hne
  obtain ⟨-, ts, d, ⟨-, hx⟩ | ⟨e, hm, -, rfl⟩ | ⟨e, -, rfl⟩ | ⟨-, -, rfl⟩ | ⟨hm, rfl⟩⟩ := step_cases s t h
  · exact absurd (hostAccess_frame hx).asleep hne
  · refine .inl ⟨⟨e, hm⟩, ?_⟩
    rw [engineEvent_asleep] at hne ⊢
    by_cases hs : s.pp = .sCommit
    · obtain ⟨hb, he⟩ := engineEvent_powerCommit (s := { s with turns := ts, draws := d }) e (.inl hs)
      exact ⟨hb, he, .inl ⟨hs, if_pos hs⟩⟩
    · rw [if_neg (by exact hs)] at hne ⊢
      by_cases hk : s.pp = .kCommit ∨ s.pp = .iCommit
      · obtain ⟨hb, he⟩ := engineEvent_powerCommit (s := { s with turns := ts, draws := d }) e (.inr hk)
        exact ⟨hb, he, .inr ⟨hk, if_pos hk⟩⟩
      · exact absurd (if_neg hk) hne
  · exact absurd (sensorMove_asleep _ _) hne
  · exact absurd rfl hne
  · exact .inr ⟨hm, rfl⟩

/-! ## How an engine event leaves the running command -/

/-- The points that commit a command's result. -/
def Point.commits : List Point := [.iCommit, .rCommit, .sCommit, .kCommit]

/-- The event leaves the command running. -/
def GoesOn (s t : State) : Prop := t.busy = s.busy ∧ t.err = s.err ∧ t.valid = s.valid

/-- The event completes the command with OK; only a READ's commit changes VALID. -/
def Succeeds (s t : State) : Prop := t.busy = false ∧ t.err = .ok ∧ (s.pp ≠ .rCommit → t.valid = s.valid)

/-- The event ends the command with the nonzero status of a failed wait or, if pins can fail, of a failed pin
operation; a READ's failure clears VALID (60_exceptions.md R121, R123). -/
structure Raises (s t : State) : Prop where
  busy : t.busy = false
  err : t.err = .notReady ∨ (s.cfg.pinFallible = true ∧ (t.err = .ioError ∨ t.err = .configError))
  valid : t.valid = if s.op = .read then false else s.valid
  noCommit : s.pp ∉ Point.commits

theorem Raises.err_ne_ok {s t : State} (h : Raises s t) : t.err ≠ .ok := by
  obtain h | ⟨-, h | h⟩ := h.err <;> simp [h]

theorem pinFallible_of_pinFails {e : Bool} {s : State} (h : pinFails e s = true) : s.cfg.pinFallible = true :=
  (Bool.and_eq_true_iff.1 h).2

theorem EventTo.ends_cases {e : Bool} {s t : State} (h : EventTo e s t) : GoesOn s t ∨ Succeeds s t ∨ Raises s t := by
  cases h with
  | idle | cfgSck | cfgDout | readFound | poll | rise | sample | dFall | tFall | sSet | kSet | delayEnds =>
    exact .inl ⟨rfl, rfl, rfl⟩
  | iCommit | found | sCommit | kCommit => exact .inr (.inl ⟨rfl, rfl, fun _ => finish_valid _⟩)
  | rCommit hp => exact .inr (.inl ⟨rfl, rfl, fun h => absurd hp h⟩)
  | cfgFails hp hf =>
    refine .inr (.inr ⟨rfl, .inr ⟨pinFallible_of_pinFails hf, .inr rfl⟩, by simp, ?_⟩)
    obtain hp | hp := hp <;> simp [hp, Point.commits]
  | timedOut hp =>
    refine .inr (.inr ⟨rfl, .inl rfl, by simp, ?_⟩)
    obtain hp | hp := hp <;> simp [hp, Point.commits]
  | getFails hp hf | setFails hp hf =>
    refine .inr (.inr ⟨rfl, .inr ⟨pinFallible_of_pinFails hf, .inl rfl⟩, by simp, fun hc => ?_⟩)
    revert hp hc
    generalize s.pp = p
    revert p
    decide

/-! ## s.valid -/

/-- Of the command words only a READ that is rejected writes VALID in the step of its write. -/
theorem exec_valid_cases {i : Instr} {s t : State} (h : exec i s = .next t) :
    t.valid = s.valid
      ∨ (s.busy = false ∧ t.valid = false ∧ (t.err = .notInitialized ∨ t.err = .asleep) ∧ i = .read) := by
  obtain ⟨-, rfl⟩ | ⟨hb, st, -, rfl, hst⟩ | ⟨-, -, _, -, rfl⟩ | ⟨-, -, _, -, rfl⟩ | ⟨-, -, -, -, rfl⟩
    | ⟨-, -, -, -, rfl⟩ | ⟨-, -, -, rfl⟩ | ⟨-, -, -, rfl⟩ := exec_cases i s t h
  case inr.inl =>
    by_cases hi : i = .read
    · refine .inr ⟨hb, ?_, hst hi, hi⟩
      obtain rfl | rfl := hst hi <;> simp [hi]
    · exact .inl (by simp [hi])
  all_goals exact .inl (by simp)

theorem hostAccess_valid_cases {s t : State} (h : hostAccess s = .next t) :
    t.valid = s.valid
      ∨ (s.busy = false ∧ t.valid = false ∧ (t.err = .notInitialized ∨ t.err = .asleep)
        ∧ ∃ w ops, skipIdle s.host = .wr .cmd w :: ops ∧ decode w = .read) := by
  obtain ⟨w, ops, hw, hx⟩ | ⟨_, _, rfl⟩ | ⟨_, _, rfl⟩ := hostAccess_cases s t h
  · exact (exec_valid_cases hx).imp_right fun ⟨hb, hv, he, hd⟩ => ⟨hb, hv, he, w, ops, hw, hd⟩
  · exact .inl rfl
  · exact .inl rfl

@[simp] theorem sensorMove_valid (e : SensorEvent) (s : State) : (sensorMove e s).valid = s.valid := by
  cases e <;> rfl

/-- Settles O31: by the moves of a step, and by how an engine event leaves its command. -/
theorem onlyReadWritesValid : Obligations.OnlyReadWritesValid := by
  intro s t h hne
  obtain ⟨-, ts, d, ⟨hm, hx⟩ | ⟨e, hm, -, rfl⟩ | ⟨e, -, rfl⟩ | ⟨-, -, rfl⟩ | ⟨hm, rfl⟩⟩ := step_cases s t h
  · exact .inr (.inr (.inl ⟨hm, (hostAccess_valid_cases hx).resolve_left hne⟩))
  · obtain ⟨-, -, hv⟩ | ⟨-, -, hv⟩ | hr := (engineEvent_spec e { s with turns := ts, draws := d }).ends_cases
    · exact absurd hv hne
    · by_cases hp : s.pp = .rCommit
      · obtain ⟨-, hv, he, -⟩ := engineEvent_rCommit (s := { s with turns := ts, draws := d }) e hp
        exact .inl ⟨⟨e, hm⟩, hp, hv, he⟩
      · exact absurd (hv hp) hne
    · by_cases ho : s.op = .read
      · exact .inr (.inl ⟨⟨e, hm⟩, ho, hr.busy, hr.err_ne_ok, hr.valid.trans (if_pos ho)⟩)
      · exact absurd (hr.valid.trans (if_neg ho)) hne
  · exact absurd (sensorMove_valid _ _) hne
  · exact absurd rfl hne
  · exact .inr (.inr (.inr ⟨hm, rfl⟩))

/-! ## What a failed command leaves -/

@[simp] theorem sensorMove_busy (e : SensorEvent) (s : State) : (sensorMove e s).busy = s.busy := by
  cases e <;> rfl

/-- While a command runs no host access ends it. -/
theorem hostAccess_busy {s t : State} (h : hostAccess s = .next t) (hb : s.busy = true) : t.busy = true := by
  obtain ⟨w, ops, -, hx⟩ | ⟨_, _, rfl⟩ | ⟨_, _, rfl⟩ := hostAccess_cases s t h
  · rw [exec_busy _ (by exact hb)] at hx
    cases hx
    exact hb
  · exact hb
  · exact hb

/-- Settles O33: only an engine event ends a running command, and no commit fails. -/
theorem failedCommandLeavesBlockState : Obligations.FailedCommandLeavesBlockState := by
  intro s t h hb hm ht he
  obtain ⟨-, ts, d, ⟨-, hx⟩ | ⟨e, -, -, rfl⟩ | ⟨e, -, rfl⟩ | ⟨-, -, rfl⟩ | ⟨hr, -⟩⟩ := step_cases s t h
  · cases (hostAccess_busy hx hb).symm.trans ht
  · obtain ⟨hb', -, -⟩ | ⟨-, he', -⟩ | hr := (engineEvent_spec e { s with turns := ts, draws := d }).ends_cases
    · cases hb.symm.trans (hb'.symm.trans ht)
    · exact absurd he' he
    · have hp := hr.noCommit
      simp only [Point.commits, List.mem_cons, List.not_mem_nil, or_false, not_or] at hp
      obtain ⟨hi, hrc, hs, hk⟩ := hp
      refine ⟨?_, ?_, ?_, ?_, fun ho => hr.valid.trans (if_neg ho), fun ho => hr.valid.trans (if_pos ho)⟩
      · rw [engineEvent_init, if_neg hi]
      · rw [engineEvent_sel, if_neg hi]
      · rw [engineEvent_asleep, if_neg hs, if_neg (not_or.2 ⟨hk, hi⟩)]
      · rw [engineEvent_result, if_neg hrc]
  · rw [sensorMove_busy] at ht
    cases hb.symm.trans ht
  · cases hb.symm.trans ht
  · exact absurd hr hm

/-! ## The lines -/

/-- Only at IDLE does no command have the position. -/
theorem Point.op_eq_none_iff {p : Point} : p.op = .none ↔ p = .idle := by
  cases p <;> decide

theorem State.Inv.op_ne_none {s : State} (h : s.Inv) (hb : s.busy = true) : s.op ≠ .none := by
  rw [h.opOfPoint, Ne, Point.op_eq_none_iff]
  exact h.busyIff.1 hb

/-- A sensor's move leaves SCK and both configurations alone. -/
theorem sensorMove_lines (e : SensorEvent) (s : State) :
    (sensorMove e s).sck = s.sck ∧ (sensorMove e s).sckMode = s.sckMode ∧ (sensorMove e s).doutMode = s.doutMode := by
  cases e <;> exact ⟨rfl, rfl, rfl⟩

/-- Settles O34: by the moves of a step; what an engine event does to the lines, it does for the running command, which
by the invariant is INIT before initialisation. -/
theorem onlyEngineTouchesLines : Obligations.OnlyEngineTouchesLines := by
  intro s t hinv h hne
  have same : ¬(t.sck = s.sck ∧ t.sckMode = s.sckMode ∧ t.doutMode = s.doutMode) := by
    rintro ⟨h1, h2, h3⟩
    obtain hn | hn | hn := hne <;> exact hn ‹_›
  obtain ⟨-, ts, d, ⟨-, hx⟩ | ⟨e, hm, he, rfl⟩ | ⟨e, -, rfl⟩ | ⟨-, -, rfl⟩ | ⟨hm, rfl⟩⟩ := step_cases s t h
  · obtain hf := hostAccess_frame hx
    exact absurd ⟨hf.sck, hf.sckMode, hf.doutMode⟩ same
  · have hb := ((engineEnabled_iff s).1 he).1
    refine .inl ⟨⟨e, hm⟩, hb, fun hi => ?_⟩
    by_contra hop
    exact absurd ((hinv.initRunning (hinv.op_ne_none hb)).2 hop) (by simp [hi])
  · exact absurd (sensorMove_lines _ _) same
  · exact absurd ⟨rfl, rfl, rfl⟩ same
  · exact .inr ⟨hm, rfl, rfl, rfl⟩

/-- No command word's write reports a line error. -/
theorem exec_err_cases {i : Instr} {s t : State} (h : exec i s = .next t) :
    t.err = s.err ∨ (t.err ≠ .ioError ∧ t.err ≠ .configError) := by
  rcases Bool.eq_false_or_eq_true s.busy with hb | hb
  · rw [exec_busy i hb] at h
    cases h
    exact .inl rfl
  · right
    cases i with
    | illegal _ | invalidInit | invalidSetGain =>
      cases (cmdWrite_idle hb).symm.trans h
      simp
    | init sel =>
      rw [exec_init_eq_cmdWrite, cmdWrite_idle hb] at h
      cases h
      split <;> simp
    | sleep | wake | setGain _ =>
      cases (cmdWrite_idle hb).symm.trans h
      unfold needInit
      split <;> simp
    | waitReady | read =>
      cases (cmdWrite_idle hb).symm.trans h
      unfold needInit
      split
      · unfold needAwake
        split <;> simp
      · simp

theorem hostAccess_err_cases {s t : State} (h : hostAccess s = .next t) :
    t.err = s.err ∨ (t.err ≠ .ioError ∧ t.err ≠ .configError) := by
  obtain ⟨w, ops, -, hx⟩ | ⟨_, _, rfl⟩ | ⟨_, _, rfl⟩ := hostAccess_cases s t h
  · exact (exec_err_cases hx :)
  · exact .inl rfl
  · exact .inl rfl

@[simp] theorem sensorMove_err (e : SensorEvent) (s : State) : (sensorMove e s).err = s.err := by
  cases e <;> rfl

/-- Settles O35: only an engine event whose pin operation fails raises a line error. -/
theorem infalliblePinsRaiseNoLineError : Obligations.InfalliblePinsRaiseNoLineError := by
  intro s t h hf herr
  have same : (t.err = s.err ∨ (t.err ≠ .ioError ∧ t.err ≠ .configError)) → t.err = s.err :=
    fun h => h.resolve_right fun ⟨hio, hcfg⟩ => herr.elim hio hcfg
  refine same ?_
  obtain ⟨-, ts, d, ⟨-, hx⟩ | ⟨e, -, -, rfl⟩ | ⟨e, -, rfl⟩ | ⟨-, -, rfl⟩ | ⟨-, rfl⟩⟩ := step_cases s t h
  · exact (hostAccess_err_cases hx :)
  · obtain ⟨-, he, -⟩ | ⟨-, he, -⟩ | hr := (engineEvent_spec e { s with turns := ts, draws := d }).ends_cases
    · exact .inl he
    · exact .inr (by simp [he])
    · obtain he | ⟨hp, -⟩ := hr.err
      · exact .inr (by simp [he])
      · cases hf.symm.trans hp
  · exact .inl (sensorMove_err _ _)
  · exact .inl rfl
  · exact .inr (by simp)

end Sys2Proof.Machine

/-! PROOFS. What the block does not depend on: ARG while a command runs (10_state.md R34), and the sensor but for DOUT
(00_scope.md R7, 20_memory.md section 6). -/

namespace Sys2Proof.Machine

/-- The state with another ARG and another sensor record. -/
def State.withEnv (s : State) (v : Word) (x : Sensor) : State := { s with arg := v, sensor := x }

/-- An engine event reads neither of the two: it takes the same way out, leaves ARG alone, and what it does to the
sensor record depends on that record alone. -/
theorem EventTo.withEnv {e : Bool} {s t : State} (h : EventTo e s t) (v : Word) (x : Sensor) :
    ∃ y, (x = s.sensor → y = t.sensor) ∧ EventTo e (s.withEnv v x) (t.withEnv v y) := by
  cases h with
  | idle hp => exact ⟨_, id, .idle hp⟩
  | cfgFails hp hf => exact ⟨_, id, .cfgFails hp hf⟩
  | cfgSck hp hf => exact ⟨_, by rintro rfl; rfl, .cfgSck hp hf⟩
  | cfgDout hp hf => exact ⟨_, by rintro rfl; rfl, .cfgDout hp hf⟩
  | iCommit hp => exact ⟨_, id, .iCommit hp⟩
  | getFails hp hf => exact ⟨_, by rintro rfl; rfl, .getFails hp hf⟩
  | setFails hp hf => exact ⟨_, by rintro rfl; rfl, .setFails hp hf⟩
  | found hp hf hd => exact ⟨_, id, .found hp hf hd⟩
  | readFound hp hf hd => exact ⟨_, id, .readFound hp hf hd⟩
  | timedOut hp hf hd ht => exact ⟨_, id, .timedOut hp hf hd ht⟩
  | poll q hp hf hd ht => exact ⟨_, id, .poll q hp hf hd ht⟩
  | rise q hp hf => exact ⟨_, by rintro rfl; rfl, .rise q hp hf⟩
  | sample hp hf => exact ⟨_, id, .sample hp hf⟩
  | dFall hp hf => exact ⟨_, by rintro rfl; rfl, .dFall hp hf⟩
  | tFall hp hf => exact ⟨_, by rintro rfl; rfl, .tFall hp hf⟩
  | rCommit hp => exact ⟨_, id, .rCommit hp⟩
  | sSet hp hf => exact ⟨_, by rintro rfl; rfl, .sSet hp hf⟩
  | sCommit hp => exact ⟨_, id, .sCommit hp⟩
  | kSet hp hf => exact ⟨_, by rintro rfl; rfl, .kSet hp hf⟩
  | kCommit hp => exact ⟨_, id, .kCommit hp⟩
  | delayEnds hp => exact ⟨_, id, .delayEnds hp⟩

theorem engineEvent_withEnv (e : Bool) (s : State) (v : Word) (x : Sensor) :
    ∃ y, (x = s.sensor → y = (engineEvent e s).sensor)
      ∧ engineEvent e (s.withEnv v x) = (engineEvent e s).withEnv v y := by
  obtain ⟨y, hy, ht⟩ := (engineEvent_spec e s).withEnv v x
  exact ⟨y, hy, ht.eq⟩

/-- Nor does the choice of the next move. -/
theorem nextMove_withEnv (s : State) (v : Word) (x : Sensor) :
    nextMove (s.withEnv v x) = ((nextMove s).1, (nextMove s).2.withEnv v x) := by
  have turns : (s.withEnv v x).turns = s.turns := rfl
  have access : hostHasAccess (s.withEnv v x).host = hostHasAccess s.host := rfl
  have ready : (!(s.withEnv v x).engineEnabled && hostReady (s.withEnv v x)) = (!s.engineEnabled && hostReady s) := rfl
  unfold nextMove
  rw [turns, access, ready]
  split
  · split <;> rfl
  · rfl
  · rfl
  · rfl
  · split <;> rfl

/-! ## ARG -/

/-- While a command runs, a host access reads ARG at most into the trace. -/
theorem hostAccess_withArg {s t : State} (h : hostAccess s = .next t) (hb : s.busy = true) (v : Word) :
    ∃ a tr, hostAccess { s with arg := v } = .next { t with arg := a, trace := tr } := by
  unfold hostAccess at h ⊢
  have hosts : ({ s with arg := v } : State).host = s.host := rfl
  rw [hosts]
  split at h
  case h_1 r w ops hs =>
    cases r with
    | cmd =>
      rw [regWrite, exec_busy _ (by exact hb)] at h ⊢
      cases h
      exact ⟨_, _, rfl⟩
    | arg | status | result => cases h; exact ⟨_, _, rfl⟩
  case h_3 ops hs =>
    rw [if_pos hb] at h
    rw [if_pos (by exact hb)]
    cases h
    exact ⟨_, _, rfl⟩
  case h_2 | h_4 | h_5 => cases h; exact ⟨_, _, rfl⟩

/-- No move of a running command does. -/
theorem applyMove_withArg {m : Move} {s t : State} (h : applyMove m s = .next t) (hb : s.busy = true) (v : Word) :
    ∃ a tr, applyMove m { s with arg := v } = .next { t with arg := a, trace := tr } := by
  cases m with
  | host => exact hostAccess_withArg h hb v
  | engine e =>
    cases h
    obtain ⟨y, hy, hev⟩ := engineEvent_withEnv e s v s.sensor
    rw [hy rfl] at hev
    exact ⟨_, _, congrArg Host.Outcome.next hev⟩
  | sensor e => cases h; cases e <;> exact ⟨_, _, rfl⟩
  | tick | reset => cases h; exact ⟨_, _, rfl⟩

/-- A step is its move from the state with its turn taken off. -/
theorem step_eq_applyMove {s t : State} (h : step s = .next t) : applyMove (nextMove s).1 (nextMove s).2 = .next t := by
  unfold step systemStep at h
  split at h
  · exact h
  · cases h

/-- With another ARG and another sensor record it is the same move from the state with these. -/
theorem step_withEnv {s t : State} (h : step s = .next t) (v : Word) (x : Sensor) :
    step (s.withEnv v x) = applyMove (nextMove s).1 ((nextMove s).2.withEnv v x) := by
  obtain ⟨hl, -⟩ := step_cases s t h
  have hl' : (s.withEnv v x).cfg.legal = true := hl
  simp only [step, systemStep, hl', if_true, nextMove_withEnv]

/-- Settles O36: the next move is the same one, and no move of a running command reads ARG but into the trace. -/
theorem argDoesNotAffectRunningCommand : Obligations.ArgDoesNotAffectRunningCommand := by
  intro s t v hb h
  obtain ⟨ts, d, hs⟩ := nextMove_state s
  have hsame : (nextMove s).2.withEnv v s.sensor = { (nextMove s).2 with arg := v } := by rw [hs]; rfl
  have hstep : step { s with arg := v } = applyMove (nextMove s).1 { (nextMove s).2 with arg := v } :=
    (step_withEnv h v s.sensor).trans (by rw [hsame])
  rw [hstep]
  exact applyMove_withArg (step_eq_applyMove h) (by rw [hs]; exact hb) v

/-! ## The sensor -/

/-- What acceptance does depends on the sensor record in no way. -/
def IgnoresSensor (k : State → State) : Prop := ∀ s x, k { s with sensor := x } = { k s with sensor := x }

theorem IgnoresSensor.needInit {k : State → State} (hk : IgnoresSensor k) (isRead : Bool) :
    IgnoresSensor (needInit isRead k) := by
  intro s x
  unfold Machine.needInit
  have hi : ({ s with sensor := x } : State).init = s.init := rfl
  rw [hi]
  split
  · exact hk s x
  · rfl

theorem IgnoresSensor.needAwake {k : State → State} (hk : IgnoresSensor k) (isRead : Bool) :
    IgnoresSensor (needAwake isRead k) := by
  intro s x
  unfold Machine.needAwake
  have ha : ({ s with sensor := x } : State).asleep = s.asleep := rfl
  rw [ha]
  split
  · rfl
  · exact hk s x

theorem IgnoresSensor.cmdWrite {k : State → State} (hk : IgnoresSensor k) {s t : State}
    (h : cmdWrite k s = .next t) (x : Sensor) :
    Machine.cmdWrite k { s with sensor := x } = .next { t with sensor := x } := by
  obtain ⟨hb, hs⟩ | ⟨hb, hs⟩ := cmdWrite_cases k s
  · cases hs.symm.trans h
    exact congrArg _ (if_pos hb)
  · cases hs.symm.trans h
    rw [cmdWrite_idle (by exact hb)]
    exact congrArg _ (hk (acceptUpdate s) x)

/-- No command word's write reads the sensor record. -/
theorem exec_withSensor {i : Instr} {s t : State} (h : exec i s = .next t) (x : Sensor) :
    exec i { s with sensor := x } = .next { t with sensor := x } := by
  have starts : ∀ o p, IgnoresSensor (startAt o p) := fun _ _ _ _ => rfl
  cases i with
  | init sel =>
    rw [exec_init_eq_cmdWrite] at h ⊢
    refine IgnoresSensor.cmdWrite (fun u y => ?_) h x
    have hi : ({ u with sensor := y } : State).init = u.init := rfl
    rw [hi]
    split <;> rfl
  | waitReady =>
    exact IgnoresSensor.cmdWrite (.needInit (.needAwake (fun _ _ => rfl) false) false) h x
  | read => exact IgnoresSensor.cmdWrite (.needInit (.needAwake (fun _ _ => rfl) true) true) h x
  | sleep => exact IgnoresSensor.cmdWrite (.needInit (starts _ _) false) h x
  | wake => exact IgnoresSensor.cmdWrite (.needInit (starts _ _) false) h x
  | setGain sel => exact IgnoresSensor.cmdWrite (.needInit (fun _ _ => rfl) false) h x
  | invalidInit => exact IgnoresSensor.cmdWrite (fun _ _ => rfl) h x
  | invalidSetGain => exact IgnoresSensor.cmdWrite (fun _ _ => rfl) h x
  | illegal w => exact IgnoresSensor.cmdWrite (fun _ _ => rfl) h x

theorem hostAccess_withSensor {s t : State} (h : hostAccess s = .next t) (x : Sensor) :
    hostAccess { s with sensor := x } = .next { t with sensor := x } := by
  unfold hostAccess at h ⊢
  have hosts : ({ s with sensor := x } : State).host = s.host := rfl
  rw [hosts]
  split at h
  case h_1 r w ops hs =>
    cases r with
    | cmd => exact exec_withSensor h x
    | arg | status | result => cases h; rfl
  case h_2 r ops hs => cases h; cases r <;> rfl
  case h_3 ops hs =>
    cases h
    have hb : ({ s with sensor := x } : State).busy = s.busy := rfl
    rw [hb]
    split <;> rfl
  case h_4 | h_5 => cases h; rfl

theorem applyMove_withSensor {m : Move} {s t : State} (h : applyMove m s = .next t) (x : Sensor) :
    ∃ y, applyMove m { s with sensor := x } = .next { t with sensor := y } := by
  cases m with
  | host => exact ⟨x, hostAccess_withSensor h x⟩
  | engine e =>
    cases h
    obtain ⟨y, -, hev⟩ := engineEvent_withEnv e s s.arg x
    refine ⟨y, congrArg Host.Outcome.next (hev.trans ?_)⟩
    rw [← engineEvent_arg e s]
    rfl
  | sensor e => cases h; cases e <;> exact ⟨_, rfl⟩
  | tick | reset => cases h; exact ⟨_, rfl⟩

/-- No move but the sensor's changes what drives DOUT. -/
theorem step_doutDrive_cases {s t : State} (h : step s = .next t) :
    t.doutDrive = s.doutDrive ∨ ∃ e, (nextMove s).1 = .sensor e := by
  obtain ⟨-, ts, d, ⟨-, hx⟩ | ⟨e, -, -, rfl⟩ | ⟨e, hm, -⟩ | ⟨-, -, rfl⟩ | ⟨-, rfl⟩⟩ := step_cases s t h
  · exact .inl (hostAccess_frame hx).doutDrive
  · exact .inl (engineEvent_doutDrive _ _)
  · exact .inr ⟨e, hm⟩
  · exact .inl rfl
  · exact .inl rfl

/-- The engine changes the DOUT level by its pull-up at most, when it configures DOUT. -/
theorem engineEvent_dout_cases (e : Bool) (s : State) :
    (engineEvent e s).dout = s.dout ∨ (s.pp = .iCfgDout ∧ (engineEvent e s).doutMode = .inputPullup) := by
  by_cases hp : s.pp = .iCfgDout
  · cases hf : pinFails e s
    · exact .inr ⟨hp, by rw [(EventTo.cfgDout hp hf).eq]; rfl⟩
    · exact .inl (by rw [(EventTo.cfgFails (.inr hp) hf).eq]; simp)
  · exact .inl (engineEvent_dout e s hp)

/-- Settles O37: the next move does not depend on the sensor record and neither does what it does to the rest; the DOUT
level is followed through the moves of a step. -/
theorem engineSeesSensorOnlyThroughDout : Obligations.EngineSeesSensorOnlyThroughDout := by
  refine ⟨fun s t x h => ?_, fun s e ts hl ht => ?_, fun s => ⟨dout_driven s, dout_pulledUp s⟩,
    fun s t h hne => (step_doutDrive_cases h).resolve_left hne, fun s t h hne => ?_⟩
  · obtain ⟨ts, d, hs⟩ := nextMove_state s
    have hsame : (nextMove s).2.withEnv s.arg x = { (nextMove s).2 with sensor := x } := by rw [hs]; rfl
    have hstep : step { s with sensor := x } = applyMove (nextMove s).1 { (nextMove s).2 with sensor := x } :=
      (step_withEnv h s.arg x).trans (by rw [hsame])
    rw [hstep]
    exact applyMove_withSensor (step_eq_applyMove h) x
  · rw [step_sensor s e ts hl ht]
    cases e <;> exact ⟨_, rfl⟩
  · obtain ⟨-, ts, d, ⟨-, hx⟩ | ⟨e, hm, -, rfl⟩ | ⟨e, hm, -⟩ | ⟨-, -, rfl⟩ | ⟨-, rfl⟩⟩ := step_cases s t h
    · have hf := hostAccess_frame hx
      exact absurd (dout_congr s t hf.doutDrive hf.doutMode hf.doutFloat) hne
    · exact .inr ⟨⟨e, hm⟩, (engineEvent_dout_cases e { s with turns := ts, draws := d }).resolve_left hne⟩
    · exact .inl ⟨e, hm⟩
    · exact absurd rfl hne
    · exact absurd (resetBlock_dout _) hne

end Sys2Proof.Machine

/-! PROOFS. The invariant of the block: every step keeps it (10_state.md sections 2 to 5). -/

namespace Sys2Proof.Machine

/-! ## Ticks until s.due -/

theorem ticksToDue_holdAt (p : Point) (d : Nat) (s : State) : ticksToDue (holdAt p d s) = d % 2 ^ 64 := by
  simp [ticksToDue, ticks]

/-- A Delay is entered with at most its length left. -/
theorem ticksToDue_holdAt_le (p : Point) (d : Nat) (s : State) : ticksToDue (holdAt p d s) ≤ d :=
  (ticksToDue_holdAt p d s).trans_le (Nat.mod_le _ _)

/-- A tick before s.due takes one off. -/
theorem ticksToDue_timeStep {s : State} (h : s.now ≠ s.due) : ticksToDue (timeStep s) + 1 = ticksToDue s := by
  have hne : s.now.toNat ≠ s.due.toNat := fun h' => h (BitVec.eq_of_toNat_eq h')
  have := s.now.isLt
  have := s.due.isLt
  simp only [ticksToDue, timeStep_due, timeStep_now, BitVec.toNat_sub, BitVec.toNat_add]
  simp
  omega

theorem ticksToDue_eq_zero {s : State} (h : s.now = s.due) : ticksToDue s = 0 := by
  simp [ticksToDue, h]

/-- At a Delay point of a running command whose event is not enabled, s.due is still to come. -/
theorem now_ne_due {s : State} (hb : s.busy = true) (hd : s.pp.isDelay = true) (he : s.engineEnabled = false) :
    s.now ≠ s.due := by
  intro h
  have hp : s.pp ≠ .idle := by
    intro hp
    simp [hp, Point.isDelay] at hd
  exact absurd (enabled_of_due s hb hp h) (by simp [he])

/-- An enabled event at a Delay point is at its end. -/
theorem due_of_enabled {s : State} (he : s.engineEnabled = true) (hd : s.pp.isDelay = true) : ticksToDue s = 0 :=
  ticksToDue_eq_zero (((engineEnabled_iff s).1 he).2.2 hd)

/-! ## The running command under the invariant -/

/-- INIT runs before initialisation and the others after it. -/
theorem State.Inv.init_iff {s : State} (h : s.Inv) (hp : s.pp ≠ .idle) : s.init = true ↔ s.pp.op ≠ .init := by
  rw [← h.opOfPoint]
  refine h.initRunning ?_
  rw [h.opOfPoint, Ne, Point.op_eq_none_iff]
  exact hp

theorem State.Inv.init_eq_true {s : State} (h : s.Inv) (hp : s.pp ≠ .idle) (ho : s.pp.op ≠ .init) : s.init = true :=
  (h.init_iff hp).2 ho

theorem State.Inv.init_eq_false {s : State} (h : s.Inv) (ho : s.pp.op = .init) : s.init = false := by
  have hp : s.pp ≠ .idle := by
    intro hp
    simp [hp, Point.op] at ho
  exact Bool.eq_false_of_not_eq_true fun hi => (h.init_iff hp).1 hi ho

/-! ## A step that goes on with the running command -/

/-- What one step of a running command can leave to the next: the same command, with the block's registers as they
were. -/
structure SameCommand (s t : State) : Prop where
  cfg : t.cfg = s.cfg
  init : t.init = s.init
  sel : t.sel = s.sel
  asleep : t.asleep = s.asleep
  busy : t.busy = s.busy
  err : t.err = s.err
  valid : t.valid = s.valid
  result : t.result = s.result
  op : t.op = s.op
  opnd : t.opnd = s.opnd
  t0 : t.t0 = s.t0
  tmo : t.tmo = s.tmo

/-- The clauses of the invariant on the lines' configuration. -/
structure LinesConfigured (s : State) : Prop where
  sck : s.init = true ∨ s.pp ∈ [Point.iCfgDout, .iSettle, .iCommit] → s.sckMode = .output
  dout : s.init = true ∨ s.pp ∈ [Point.iSettle, .iCommit] → s.doutMode = .inputPullup
  noDout : s.init = false → s.pp ∉ [Point.iSettle, .iCommit] → s.doutMode = .unconfigured

/-- An initialised engine whose lines keep their configuration. -/
theorem LinesConfigured.of_init {s t : State} (h : s.Inv) (hi : s.init = true) (hti : t.init = s.init)
    (hs : t.sckMode = s.sckMode) (hd : t.doutMode = s.doutMode) : LinesConfigured t where
  sck _ := hs.trans (h.sckConfigured (.inl hi))
  dout _ := hd.trans (h.doutConfigured (.inl hi))
  noDout h' := by cases hi.symm.trans (hti.symm.trans h')

/-- The command goes on at a point of its own. -/
theorem State.Inv.goesOn {s t : State} (h : s.Inv) (same : SameCommand s t) (hop : t.pp.op = s.pp.op)
    (lines : LinesConfigured t) (hc : t.bit ≤ 24 ∧ t.trail ≤ 3) (hr : readCounts t)
    (hd : t.pp.isDelay = true → ticksToDue t ≤ t.pp.delay t.cfg) : t.Inv where
  selLegal := same.sel ▸ h.selLegal
  opndLegal := same.opnd ▸ h.opndLegal
  busyIff := by
    rw [same.busy, h.busyIff, Ne, Ne, ← Point.op_eq_none_iff, ← Point.op_eq_none_iff, hop]
  opOfPoint := same.op.trans (h.opOfPoint.trans hop.symm)
  errRunning := by rw [same.busy, same.err]; exact h.errRunning
  initRunning := by rw [same.op, same.init]; exact h.initRunning
  awakeRunning := by rw [same.op, same.asleep]; exact h.awakeRunning
  uninit := by rw [same.init, same.asleep, same.valid, same.result, same.sel]; exact h.uninit
  resultSext := same.result ▸ h.resultSext
  counters := hc
  readCounters := hr
  tmoBound := by rw [same.op, same.tmo]; exact h.tmoBound
  sckConfigured := lines.sck
  doutConfigured := lines.dout
  doutUnconfigured := lines.noDout
  delayBound := hd

/-! ## A step that ends it -/

/-- The command is over, with INIT's operand and READ's counters as they were. -/
structure EndsCommand (s t : State) : Prop where
  busy : t.busy = false
  op : t.op = .none
  pp : t.pp = .idle
  opnd : t.opnd = s.opnd
  bit : t.bit = s.bit
  trail : t.trail = s.trail

/-- The clauses of the invariant on the registers that the host can see. -/
structure RegsLegal (s : State) : Prop where
  sel : s.sel ≠ 3
  uninit : s.init = false → s.asleep = false ∧ s.valid = false ∧ s.result = 0 ∧ s.sel = 0
  result : ∃ c : Code, s.result = sext32 c

theorem State.Inv.regs {s : State} (h : s.Inv) : RegsLegal s := ⟨h.selLegal, h.uninit, h.resultSext⟩

/-- They stay so when VALID is at most cleared. -/
theorem RegsLegal.of_same {s t : State} (h : RegsLegal s) (hi : t.init = s.init) (hs : t.sel = s.sel)
    (ha : t.asleep = s.asleep) (hr : t.result = s.result) (hv : t.valid = s.valid ∨ t.valid = false) :
    RegsLegal t where
  sel := hs ▸ h.sel
  uninit h' := by
    obtain ⟨h1, h2, h3, h4⟩ := h.uninit (hi ▸ h')
    rw [ha, hr, hs]
    exact ⟨h1, hv.elim (·.trans h2) id, h3, h4⟩
  result := hr ▸ h.result

/-- In an initialised engine only the selector and RESULT matter. -/
theorem RegsLegal.of_init {t : State} (hi : t.init = true) (hs : t.sel ≠ 3) (hr : ∃ c : Code, t.result = sext32 c) :
    RegsLegal t where
  sel := hs
  uninit h := by cases hi.symm.trans h
  result := hr

theorem State.Inv.ends {s t : State} (h : s.Inv) (done : EndsCommand s t) (regs : RegsLegal t)
    (lines : LinesConfigured t) : t.Inv where
  selLegal := regs.sel
  opndLegal := done.opnd ▸ h.opndLegal
  busyIff := by simp [done.busy, done.pp]
  opOfPoint := by rw [done.op, done.pp]; rfl
  errRunning := by simp [done.busy]
  initRunning := by simp [done.op]
  awakeRunning := by simp [done.op]
  uninit := regs.uninit
  resultSext := regs.result
  counters := by rw [done.bit, done.trail]; exact h.counters
  readCounters := by simp only [readCounts, done.pp]
  tmoBound := by simp [done.op]
  sckConfigured := lines.sck
  doutConfigured := lines.dout
  doutUnconfigured := lines.noDout
  delayBound := by simp [done.pp, Point.isDelay]

/-! ## The engine's events -/

/-- The end of a Delay leads to a point of the same command, which is no Delay. -/
theorem afterDelay_op {s : State} (hp : s.pp.isDelay = true) : (afterDelay s).op = s.pp.op := by
  unfold afterDelay
  split <;> (try split) <;> simp_all [Point.op, Point.isDelay]

theorem afterDelay_isDelay (s : State) : (afterDelay s).isDelay = false := by
  unfold afterDelay
  split <;> (try split) <;> rfl

/-- An event goes on with its command or ends it. -/
theorem EventTo.goesOn_or_ends {e : Bool} {s t : State} (hev : EventTo e s t) :
    (SameCommand s t ∧ t.pp.op = s.pp.op) ∨ EndsCommand s t := by
  cases hev with
  | idle => left; refine ⟨?_, rfl⟩; constructor <;> rfl
  | delayEnds hp => left; refine ⟨?_, afterDelay_op hp⟩; constructor <;> rfl
  | cfgSck hp | cfgDout hp | readFound hp | sample hp | dFall hp | tFall hp | sSet hp | kSet hp =>
    left; refine ⟨?_, by rw [hp]; rfl⟩; constructor <;> rfl
  | poll q hp | rise q hp =>
    left; refine ⟨?_, by obtain ⟨hp, rfl⟩ | ⟨hp, rfl⟩ := hp <;> rw [hp] <;> rfl⟩; constructor <;> rfl
  | cfgFails | iCommit | getFails | setFails | found | timedOut | rCommit | sCommit | kCommit =>
    right; constructor <;> rfl

/-- A Delay is entered with its own length. -/
theorem EventTo.delayBound {e : Bool} {s t : State} (hev : EventTo e s t) (hidle : s.pp ≠ .idle)
    (hd : t.pp.isDelay = true) : ticksToDue t ≤ t.pp.delay t.cfg := by
  cases hev with
  | idle hp => exact absurd hp hidle
  | delayEnds => cases (afterDelay_isDelay s).symm.trans hd
  | cfgDout | dFall | tFall | sSet | kSet => exact ticksToDue_holdAt_le _ _ _
  | poll q hp | rise q hp =>
    obtain ⟨-, rfl⟩ | ⟨-, rfl⟩ := hp <;> exact ticksToDue_holdAt_le _ _ _
  | cfgSck | readFound | sample | cfgFails | iCommit | getFails | setFails | found | timedOut | rCommit | sCommit
  | kCommit => cases hd

theorem trailingPulses_le {sel : Sel} (h : sel ≠ 3) : trailingPulses sel ≤ 3 := by
  revert sel; decide

/-- The counters of a READ follow its points (41_acquire.md R92 to R94). -/
theorem EventTo.counters {e : Bool} {s t : State} (h : s.Inv) (hev : EventTo e s t) :
    (t.bit ≤ 24 ∧ t.trail ≤ 3) ∧ readCounts t := by
  have hbounds := h.counters
  have hcounts := h.readCounters
  have htrails := trailingPulses_le h.selLegal
  unfold readCounts at hcounts
  cases hev with
  | idle => exact ⟨hbounds, h.readCounters⟩
  | cfgSck | cfgDout | sSet | kSet | cfgFails | iCommit | getFails | setFails | found | timedOut | rCommit | sCommit
  | kCommit => exact ⟨hbounds, trivial⟩
  | poll q hp => obtain ⟨-, rfl⟩ | ⟨-, rfl⟩ := hp <;> exact ⟨hbounds, trivial⟩
  | readFound => exact ⟨⟨Nat.zero_le _, Nat.zero_le _⟩, Nat.zero_lt_succ _, rfl⟩
  | rise q hp =>
    obtain ⟨hp, rfl⟩ | ⟨hp, rfl⟩ := hp <;> rw [hp] at hcounts <;> exact ⟨hbounds, hcounts⟩
  | sample hp =>
    rw [hp] at hcounts
    exact ⟨⟨hcounts.1, hbounds.2⟩, Nat.le_add_left _ _, hcounts.2⟩
  | dFall hp => rw [hp] at hcounts; exact ⟨hbounds, hcounts⟩
  | tFall hp =>
    rw [hp] at hcounts
    obtain ⟨hbit, htrail⟩ := hcounts
    exact ⟨⟨hbounds.1, by simp; omega⟩, hbit, Nat.le_add_left _ _, htrail⟩
  | delayEnds hp =>
    refine ⟨hbounds, ?_⟩
    cases hpp : s.pp <;> simp only [hpp, Point.isDelay, Bool.false_eq_true] at hp hcounts <;>
      simp only [afterDelay, hpp]
    case dHigh | tHigh => exact hcounts
    case dLow =>
      split
      · next hlt => exact ⟨hlt, hcounts.2⟩
      · next hge => exact ⟨Nat.le_antisymm hbounds.1 (Nat.le_of_not_lt hge), hcounts.2 ▸ Nat.succ_pos _⟩
    case tLow =>
      split
      · next hlt => exact ⟨hcounts.1, hlt⟩
      · next hge => exact ⟨hcounts.1, Nat.le_antisymm hcounts.2.2 (Nat.le_of_not_lt hge)⟩
    all_goals trivial

/-- Of the points with a sample or a PinSet none is INIT's, and of its Delays only one. -/
theorem op_ne_init_of_get {p : Point} (hp : p ∈ [Point.wSample, .rwSample, .dSample]) : p.op ≠ .init := by
  revert p; decide

theorem op_ne_init_of_set {p : Point} (hp : p ∈ [Point.dRise, .dFall, .tRise, .tFall, .sSet, .kSet]) : p.op ≠ .init := by
  revert p; decide

theorem op_ne_init_of_delay {p : Point} (hp : p.isDelay = true) (hi : p ≠ .iSettle) : p.op ≠ .init := by
  cases p <;> simp [Point.isDelay, Point.op] at hp hi ⊢

/-- INIT's configurations are those of its points, and every other command finds and leaves both lines configured. -/
theorem EventTo.lines {e : Bool} {s t : State} (h : s.Inv) (hidle : s.pp ≠ .idle) (hev : EventTo e s t) :
    LinesConfigured t := by
  have kept : s.pp.op ≠ .init → ∀ u : State, u.init = s.init → u.sckMode = s.sckMode → u.doutMode = s.doutMode →
      LinesConfigured u := fun hop _ hi hs hd => .of_init h (h.init_eq_true hidle hop) hi hs hd
  have initialising : s.pp.op = .init → s.init = false := h.init_eq_false
  cases hev with
  | idle hp => exact absurd hp hidle
  | cfgFails hp =>
    have hi : s.init = false := initialising (by obtain hp | hp := hp <;> rw [hp] <;> rfl)
    have hd := h.doutUnconfigured hi (by obtain hp | hp := hp <;> simp [hp])
    exact ⟨by simp [hi], by simp [hi], fun _ _ => hd⟩
  | cfgSck hp =>
    have hi : s.init = false := initialising (by rw [hp]; rfl)
    have hd := h.doutUnconfigured hi (by simp [hp])
    exact ⟨fun _ => rfl, by simp [hi], fun _ _ => hd⟩
  | cfgDout hp =>
    have hs := h.sckConfigured (.inr (by simp [hp]))
    exact ⟨fun _ => hs, fun _ => rfl, by simp⟩
  | iCommit hp =>
    have hs := h.sckConfigured (.inr (by simp [hp]))
    have hd := h.doutConfigured (.inr (by simp [hp]))
    exact ⟨fun _ => hs, fun _ => hd, nofun⟩
  | getFails hp => exact kept (op_ne_init_of_get hp) _ rfl rfl rfl
  | setFails hp => exact kept (op_ne_init_of_set hp) _ rfl rfl rfl
  | timedOut hp => exact kept (by obtain hp | hp := hp <;> simp [hp, Point.op]) _ rfl rfl rfl
  | poll q hp | rise q hp => exact kept (by obtain ⟨hp, -⟩ | ⟨hp, -⟩ := hp <;> simp [hp, Point.op]) _ rfl rfl rfl
  | found hp | readFound hp | sample hp | dFall hp | tFall hp | rCommit hp | sSet hp | sCommit hp | kSet hp
  | kCommit hp => exact kept (by simp [hp, Point.op]) _ rfl rfl rfl
  | delayEnds hp =>
    by_cases hi : s.pp = .iSettle
    · have hs := h.sckConfigured (.inr (by simp [hi]))
      have hd := h.doutConfigured (.inr (by simp [hi]))
      exact ⟨fun _ => hs, fun _ => hd, by simp [afterDelay, hi]⟩
    · exact kept (op_ne_init_of_delay hp hi) _ rfl rfl rfl

theorem complete_valid_cases (isRead : Bool) (st : Status) (s : State) :
    (complete isRead st s).valid = s.valid ∨ (complete isRead st s).valid = false := by
  rw [complete_valid]
  split
  · exact .inr rfl
  · exact .inl rfl

/-- Only the commits write the registers, but for VALID. -/
theorem EventTo.regs {e : Bool} {s t : State} (h : s.Inv) (hidle : s.pp ≠ .idle) (hev : EventTo e s t) :
    RegsLegal t := by
  have initialised : s.pp.op ≠ .init → s.init = true := h.init_eq_true hidle
  cases hev with
  | idle | cfgSck | cfgDout | readFound | poll | rise | sample | dFall | tFall | sSet | kSet | delayEnds =>
    exact h.regs.of_same rfl rfl rfl rfl (.inl rfl)
  | cfgFails | getFails | setFails | timedOut | found =>
    exact h.regs.of_same rfl rfl rfl rfl (complete_valid_cases _ _ _)
  | iCommit => exact .of_init rfl h.opndLegal h.resultSext
  | rCommit hp => exact .of_init (initialised (by simp [hp, Point.op])) h.selLegal ⟨_, rfl⟩
  | sCommit hp | kCommit hp => exact .of_init (initialised (by simp [hp, Point.op])) h.selLegal h.resultSext

theorem inv_engineEvent {e : Bool} {s t : State} (h : s.Inv) (he : s.engineEnabled = true) (hev : EventTo e s t) :
    t.Inv := by
  obtain ⟨-, hidle, -⟩ := (engineEnabled_iff s).1 he
  obtain ⟨hbounds, hcounts⟩ := hev.counters h
  obtain ⟨same, hop⟩ | done := hev.goesOn_or_ends
  · exact h.goesOn same hop (hev.lines h hidle) hbounds hcounts (hev.delayBound hidle)
  · exact h.ends done (hev.regs h hidle) (hev.lines h hidle)

/-! ## The other moves -/

/-- A move that leaves the running command where it is. -/
structure Undisturbed (s t : State) : Prop extends SameCommand s t where
  pp : t.pp = s.pp
  acc : t.acc = s.acc
  bit : t.bit = s.bit
  trail : t.trail = s.trail
  due : t.due = s.due
  sck : t.sck = s.sck
  sckMode : t.sckMode = s.sckMode
  doutMode : t.doutMode = s.doutMode

theorem LinesConfigured.of_undisturbed {s t : State} (h : s.Inv) (same : Undisturbed s t) : LinesConfigured t where
  sck := by rw [same.init, same.pp, same.sckMode]; exact h.sckConfigured
  dout := by rw [same.init, same.pp, same.doutMode]; exact h.doutConfigured
  noDout := by rw [same.init, same.pp, same.doutMode]; exact h.doutUnconfigured

theorem State.Inv.undisturbed {s t : State} (h : s.Inv) (same : Undisturbed s t)
    (hd : s.pp.isDelay = true → ticksToDue t ≤ ticksToDue s) : t.Inv := by
  refine h.goesOn same.toSameCommand (by rw [same.pp]) (.of_undisturbed h same)
    (by rw [same.bit, same.trail]; exact h.counters) ?_ ?_
  · have := h.readCounters
    unfold readCounts at this ⊢
    rw [same.pp, same.bit, same.trail, same.sel]
    exact this
  · rw [same.pp, same.cfg]
    exact fun hp => (hd hp).trans (h.delayBound hp)

/-- With time standing still. -/
theorem State.Inv.undisturbed_now {s t : State} (h : s.Inv) (same : Undisturbed s t) (hn : t.now = s.now) : t.Inv :=
  h.undisturbed same fun _ => by rw [ticksToDue, same.due, hn]; rfl

theorem undisturbed_timeStep (s : State) : Undisturbed s (timeStep s) :=
  ⟨by constructor <;> rfl, rfl, rfl, rfl, rfl, rfl, rfl, rfl, rfl⟩

theorem undisturbed_sensorMove (e : SensorEvent) (s : State) : Undisturbed s (sensorMove e s) := by
  cases e <;> exact ⟨by constructor <;> rfl, rfl, rfl, rfl, rfl, rfl, rfl, rfl, rfl⟩

/-- A host access that is no write to CMD, and one that is while a command runs. -/
theorem undisturbed_hostAccess {s t : State} (h : hostAccess s = .next t)
    (hcmd : ∀ w ops, skipIdle s.host ≠ .wr .cmd w :: ops) : Undisturbed s t := by
  obtain ⟨w, ops, hw, -⟩ | ⟨_, _, rfl⟩ | ⟨_, _, rfl⟩ := hostAccess_cases s t h
  · exact absurd hw (hcmd w ops)
  · exact ⟨by constructor <;> rfl, rfl, rfl, rfl, rfl, rfl, rfl, rfl, rfl⟩
  · exact ⟨by constructor <;> rfl, rfl, rfl, rfl, rfl, rfl, rfl, rfl, rfl⟩

theorem undisturbed_dropWord (s : State) (ops : List HostOp) : Undisturbed s (dropWord { s with host := ops }) :=
  ⟨by constructor <;> rfl, rfl, rfl, rfl, rfl, rfl, rfl, rfl, rfl⟩

theorem undisturbed_hostAccess_of_busy {s t : State} (h : hostAccess s = .next t) (hb : s.busy = true) :
    Undisturbed s t := by
  obtain ⟨w, ops, -, hx⟩ | ⟨_, _, rfl⟩ | ⟨_, _, rfl⟩ := hostAccess_cases s t h
  · rw [exec_busy _ (by exact hb)] at hx
    cases hx
    exact undisturbed_dropWord s ops
  · exact ⟨by constructor <;> rfl, rfl, rfl, rfl, rfl, rfl, rfl, rfl, rfl⟩
  · exact ⟨by constructor <;> rfl, rfl, rfl, rfl, rfl, rfl, rfl, rfl, rfl⟩

theorem inv_timeStep {s : State} (h : s.Inv) (he : s.engineEnabled = false) : (timeStep s).Inv := by
  refine h.undisturbed (undisturbed_timeStep s) fun hd => ?_
  have hb : s.busy = true := h.busyIff.2 (by intro hp; simp [hp, Point.isDelay] at hd)
  have := ticksToDue_timeStep (now_ne_due hb hd he)
  omega

theorem inv_sensorMove {e : SensorEvent} {s : State} (h : s.Inv) : (sensorMove e s).Inv :=
  h.undisturbed_now (undisturbed_sensorMove e s) (sensorMove_now e s)

theorem inv_resetBlock (s : State) : (resetBlock s).Inv :=
  Tests.inv_of (resetBlock s) 0 rfl trivial (by simp [Point.op, Point.isDelay])

/-! ## The write of a command word -/

/-- The points at which commands start. -/
def Point.starts : List Point := [.iCfgSck, .wSample, .rwSample, .sSet, .kSet]

/-- An accepted command starts at one of them. -/
structure StartsCommand (s t : State) : Prop where
  busy : t.busy = true
  err : t.err = .ok
  pp : t.pp ∈ Point.starts
  op : t.op = t.pp.op
  init : t.init = true ↔ t.op ≠ .init
  awake : t.op = .read ∨ t.op = .waitReady → t.asleep = false
  opnd : t.opnd ≠ 3
  tmo : t.op = .read ∨ t.op = .waitReady → t.tmo.toNat ≤ maxTimeout
  bit : t.bit = s.bit
  trail : t.trail = s.trail

theorem State.Inv.starts {s t : State} (h : s.Inv) (start : StartsCommand s t) (regs : RegsLegal t)
    (lines : LinesConfigured t) : t.Inv := by
  have hpp := start.pp
  simp only [Point.starts, List.mem_cons, List.not_mem_nil, or_false] at hpp
  exact {
    selLegal := regs.sel
    opndLegal := start.opnd
    busyIff := by obtain hp | hp | hp | hp | hp := hpp <;> simp [start.busy, hp]
    opOfPoint := start.op
    errRunning := fun _ => start.err
    initRunning := fun _ => start.init
    awakeRunning := start.awake
    uninit := regs.uninit
    resultSext := regs.result
    counters := by rw [start.bit, start.trail]; exact h.counters
    readCounters := by unfold readCounts; obtain hp | hp | hp | hp | hp := hpp <;> simp [hp]
    tmoBound := start.tmo
    sckConfigured := lines.sck
    doutConfigured := lines.dout
    doutUnconfigured := lines.noDout
    delayBound := by obtain hp | hp | hp | hp | hp := hpp <;> simp [hp, Point.isDelay] }

/-- The timeouts of WAIT_READY and READ fit the bound. -/
theorem argTimeout_le (arg : Word) : (argTimeout arg).toNat ≤ maxTimeout := by
  rw [argTimeout_toNat, maxTimeout, msTicks]
  have := arg.isLt
  omega

theorem readTimeout_le {c : Config} (hl : c.legal = true) : (readTimeout c).toNat ≤ maxTimeout := by
  obtain ⟨-, -, -, -, -, ⟨-, h⟩, -⟩ := (legal_iff c).1 hl
  rw [readTimeout_toNat hl, maxTimeout, msTicks, msTicks]
  omega

theorem State.Inv.pp_of_idle {s : State} (h : s.Inv) (hb : s.busy = false) : s.pp = .idle := by
  by_contra hp
  cases hb.symm.trans (h.busyIff.2 hp)

/-- Where commands start and where none runs, the lines are configured exactly in an initialised engine. -/
theorem LinesConfigured.of_idle {s t : State} (h : s.Inv) (hb : s.busy = false) (hp : t.pp ∈ Point.idle :: Point.starts)
    (hi : t.init = s.init) (hs : t.sckMode = s.sckMode) (hd : t.doutMode = s.doutMode) : LinesConfigured t := by
  have notYet : t.pp ∉ [Point.iCfgDout, .iSettle, .iCommit] ∧ t.pp ∉ [Point.iSettle, .iCommit] := by
    revert hp; generalize t.pp = p; revert p; decide
  refine ⟨fun h' => ?_, fun h' => ?_, fun h' _ => ?_⟩
  · exact hs.trans (h.sckConfigured (.inl (hi ▸ h'.resolve_right notYet.1)))
  · exact hd.trans (h.doutConfigured (.inl (hi ▸ h'.resolve_right notYet.2)))
  · exact hd.trans (h.doutUnconfigured (hi ▸ h') (by simp [h.pp_of_idle hb]))

theorem inv_exec {i : Instr} {s t : State} (h : s.Inv) (hl : s.cfg.legal = true) (hwf : i.wf = true)
    (hx : exec i s = .next t) : t.Inv := by
  have lines : s.busy = false → ∀ u : State, u.pp ∈ Point.idle :: Point.starts → u.init = s.init →
      u.sckMode = s.sckMode → u.doutMode = s.doutMode → LinesConfigured u := fun hb _ => .of_idle h hb
  obtain ⟨-, rfl⟩ | ⟨hb, st, -, rfl, -⟩ | ⟨hb, hi, sel, rfl, rfl⟩ | ⟨hb, hi, sel, rfl, rfl⟩ | ⟨hb, hi, ha, -, rfl⟩
    | ⟨hb, hi, ha, -, rfl⟩ | ⟨hb, hi, -, rfl⟩ | ⟨hb, hi, -, rfl⟩ := exec_cases i s t hx
  · exact h.undisturbed_now (undisturbed_dropWord s s.host) rfl
  · exact h.ends ⟨rfl, rfl, rfl, rfl, rfl, rfl⟩ (h.regs.of_same rfl rfl rfl rfl (complete_valid_cases _ _ _))
      (lines hb _ (by simp) rfl rfl rfl)
  · exact h.ends ⟨rfl, rfl, rfl, rfl, rfl, rfl⟩ (.of_init hi (by simpa [Instr.wf] using hwf) h.resultSext)
      (lines hb _ (by simp) rfl rfl rfl)
  · exact h.starts
      ⟨rfl, rfl, by simp [Point.starts], rfl, by simp [hi], nofun, by simpa [Instr.wf] using hwf, nofun, rfl, rfl⟩
      (h.regs.of_same rfl rfl rfl rfl (.inl rfl)) (lines hb _ (by simp [Point.starts]) rfl rfl rfl)
  · exact h.starts
      ⟨rfl, rfl, by simp [Point.starts], rfl, by simp [hi], fun _ => ha, h.opndLegal, fun _ => argTimeout_le s.arg, rfl, rfl⟩
      (h.regs.of_same rfl rfl rfl rfl (.inl rfl)) (lines hb _ (by simp [Point.starts]) rfl rfl rfl)
  · exact h.starts
      ⟨rfl, rfl, by simp [Point.starts], rfl, by simp [hi], fun _ => ha, h.opndLegal, fun _ => readTimeout_le hl, rfl, rfl⟩
      (h.regs.of_same rfl rfl rfl rfl (.inl rfl)) (lines hb _ (by simp [Point.starts]) rfl rfl rfl)
  · exact h.starts ⟨rfl, rfl, by simp [Point.starts], rfl, by simp [hi], nofun, h.opndLegal, nofun, rfl, rfl⟩
      (h.regs.of_same rfl rfl rfl rfl (.inl rfl)) (lines hb _ (by simp [Point.starts]) rfl rfl rfl)
  · exact h.starts ⟨rfl, rfl, by simp [Point.starts], rfl, by simp [hi], nofun, h.opndLegal, nofun, rfl, rfl⟩
      (h.regs.of_same rfl rfl rfl rfl (.inl rfl)) (lines hb _ (by simp [Point.starts]) rfl rfl rfl)

/-- The invariant says nothing of the schedule. -/
theorem State.Inv.scheduled {s : State} (h : s.Inv) (ts : List Turn) (d : Nat) (ops : List HostOp) :
    State.Inv { s with turns := ts, draws := d, host := ops } :=
  h.undisturbed_now ⟨by constructor <;> rfl, rfl, rfl, rfl, rfl, rfl, rfl, rfl, rfl⟩ rfl

/-- Nor of the turns and the count of free values alone. -/
theorem State.Inv.taken {s : State} (h : s.Inv) (ts : List Turn) (d : Nat) : State.Inv { s with turns := ts, draws := d } :=
  h.scheduled ts d s.host

theorem inv_hostAccess {s t : State} (h : s.Inv) (hl : s.cfg.legal = true) (hx : hostAccess s = .next t) : t.Inv := by
  by_cases hcmd : ∃ w ops, skipIdle s.host = .wr .cmd w :: ops
  · obtain ⟨w, ops, hw⟩ := hcmd
    have hexec : exec (decode w) { s with host := ops } = .next t := by
      simpa only [hostAccess, hw, regWrite] using hx
    have hinv : State.Inv { s with host := ops } := h.scheduled s.turns s.draws ops
    exact inv_exec hinv hl (wf_decode w) hexec
  · have hsame := undisturbed_hostAccess hx fun w ops hw => hcmd ⟨w, ops, hw⟩
    exact h.undisturbed_now hsame (hostAccess_frame hx).now

/-- Settles O54: every move keeps the invariant. -/
theorem stepKeepsInv : Obligations.StepKeepsInv := by
  intro s t h hs
  obtain ⟨hl, ts, d, ⟨-, hx⟩ | ⟨e, -, he, rfl⟩ | ⟨e, -, rfl⟩ | ⟨-, he, rfl⟩ | ⟨-, rfl⟩⟩ := step_cases s t hs
  · exact inv_hostAccess (h.taken ts d) hl hx
  · exact inv_engineEvent (h.taken ts d) he (engineEvent_spec _ _)
  · exact inv_sensorMove (h.taken ts d)
  · exact inv_timeStep (h.taken ts d) he
  · exact inv_resetBlock _

/-! ## A failed pin operation -/

/-- At a point with a PinGet or a PinSet of the four commands, a failing one raises IO_ERROR. -/
theorem engineEvent_pinError {s : State} {e : Bool} (hf : pinFails e s = true)
    (hp : s.pp ∈ [Point.wSample, .rwSample, .dRise, .dSample, .dFall, .tRise, .tFall, .sSet, .kSet]) :
    ∃ u : State, engineEvent e s = raiseIo u ∧ SameCommand s u ∧ u.now = s.now
      ∧ (s.pp ∈ [Point.wSample, .rwSample, .dSample] → u.sck = s.sck) := by
  by_cases hget : s.pp ∈ [Point.wSample, .rwSample, .dSample]
  · exact ⟨s, (EventTo.getFails hget hf).eq, by constructor <;> rfl, rfl, fun _ => rfl⟩
  · have hset : s.pp ∈ [Point.dRise, .dFall, .tRise, .tFall, .sSet, .kSet] := by
      revert hp hget; generalize s.pp = p; revert p; decide
    exact ⟨_, (EventTo.setFails hset hf).eq, by constructor <;> rfl, rfl, fun h => absurd h hget⟩

/-- Settles O52: the event is enabled, since a point with a pin operation is no Delay, and it raises IO_ERROR. -/
theorem pinErrorEndsTheCommand : Obligations.PinErrorEndsTheCommand := by
  intro s ts hl hfall hinv ht hp
  have hpoint : s.pp ≠ .idle ∧ s.pp.isDelay = false := by
    revert hp; generalize s.pp = p; revert p; decide
  have he := enabled_of_point s (hinv.busyIff.2 hpoint.1) hpoint.1 hpoint.2
  obtain ⟨u, hu, same, hnow, hsck⟩ := engineEvent_pinError (s := { s with turns := ts }) (e := true)
    (by simp [pinFails, hfall]) hp
  refine ⟨_, step_block_event s true ts hl ht he, ?_⟩
  rw [hu]
  refine ⟨rfl, rfl, rfl, rfl, hnow, same.result, same.init, same.sel, same.asleep, ?_, hsck⟩
  rw [raiseIo_valid, same.op, same.valid]
  by_cases hop : s.op = .read <;> simp [hop]

end Sys2Proof.Machine

/-! PROOFS. Bounded completion: the ticks a running command still needs (70_reset_and_hazards.md R148, R149). -/

namespace Sys2Proof.Machine

/-! ## Polls -/

/-- A ready wait of n > 0 ticks is one poll interval and the wait of the rest (41_acquire.md R91). -/
theorem pollTicks_of_pos {c : Config} {n : Nat} (hP : 1 ≤ c.tPollUs) (hn : 0 < n) :
    c.tPollUs + pollTicks c (n - c.tPollUs) = pollTicks c n := by
  have hfull : (n + (c.tPollUs - 1)) / c.tPollUs = (n - 1) / c.tPollUs + 1 := by
    rw [show n + (c.tPollUs - 1) = n - 1 + c.tPollUs by omega, Nat.add_div_right _ (by omega)]
  have hrest : (n - c.tPollUs + (c.tPollUs - 1)) / c.tPollUs = (n - 1) / c.tPollUs := by
    rcases Nat.lt_or_ge n c.tPollUs with h | h
    · rw [Nat.div_eq_of_lt (by omega), Nat.div_eq_of_lt (by omega)]
    · congr 1; omega
  rw [pollTicks, pollTicks, hfull, hrest]
  ring

theorem pollTicks_mono {c : Config} {m n : Nat} (h : m ≤ n) : pollTicks c m ≤ pollTicks c n :=
  Nat.mul_le_mul_right _ (Nat.div_le_div_right (Nat.add_le_add_right h _))

/-- A poll that is entered before the timeout ends one interval later in elapsed time: nothing wraps. -/
theorem elapsed_at_poll {s : State} (hl : s.cfg.legal = true) (ht : elapsed s < s.tmo) (hb : s.tmo.toNat ≤ maxTimeout) :
    (s.now + ticks s.cfg.tPollUs - s.t0).toNat = (elapsed s).toNat + s.cfg.tPollUs := by
  obtain ⟨-, -, -, -, ⟨-, hP⟩, -, -⟩ := (legal_iff s.cfg).1 hl
  have hlt : (elapsed s).toNat < s.tmo.toNat := ht
  have hsum : s.now + ticks s.cfg.tPollUs - s.t0 = elapsed s + ticks s.cfg.tPollUs := by
    unfold elapsed
    rw [BitVec.sub_eq_add_neg, BitVec.sub_eq_add_neg, BitVec.add_assoc, BitVec.add_assoc, BitVec.add_comm (ticks _)]
  rw [hsum, BitVec.toNat_add, ticks, BitVec.toNat_ofNat]
  unfold maxTimeout msTicks at hb
  omega

/-! ## The bound under the moves -/

/-- The bound reads nothing but the running command's own state and time. -/
theorem ticksLeft_of_undisturbed {s t : State} (same : Undisturbed s t) (hn : t.now = s.now) :
    ticksLeft t = ticksLeft s := by
  simp only [ticksLeft, ticksToDue, elapsed, same.pp, same.cfg, same.sel, same.bit, same.trail, same.due, same.tmo,
    same.t0, hn]

/-- In a Delay it is the ticks until s.due, and what does not depend on time. -/
theorem ticksLeft_timeStep {s : State} (hd : s.pp.isDelay = true) (hne : s.now ≠ s.due) :
    ticksLeft (timeStep s) + 1 = ticksLeft s := by
  have htick := ticksToDue_timeStep hne
  unfold ticksLeft
  cases hp : s.pp <;> simp only [hp, Point.isDelay, Bool.false_eq_true] at hd <;> simp [hp] <;> omega

/-- The bound at a given point. -/
theorem ticksLeft_at {s : State} {p : Point} (hp : s.pp = p) : ticksLeft s = ticksLeft { s with pp := p } := by
  subst hp; rfl

/-- No engine event that goes on with its command raises it. -/
theorem ticksLeft_engineEvent {e : Bool} {s t : State} (h : s.Inv) (hl : s.cfg.legal = true)
    (he : s.engineEnabled = true) (hev : EventTo e s t) (hb : t.busy = true) : ticksLeft t ≤ ticksLeft s := by
  have hcounts := h.readCounters
  have hP : 1 ≤ s.cfg.tPollUs := ((legal_iff s.cfg).1 hl).2.2.2.2.1.1
  have enters : ∀ (p : Point) (d : Nat) (u : State), ticksToDue (holdAt p d u) ≤ d := ticksToDue_holdAt_le
  have pulse : ∀ n, (n + 1) * pulseTicks s.cfg = n * pulseTicks s.cfg + (s.cfg.tHighUs + s.cfg.tLowUs) :=
    fun n => Nat.succ_mul n _
  unfold readCounts at hcounts
  cases hev with
  | idle => exact le_rfl
  | cfgFails | iCommit | getFails | setFails | found | timedOut | rCommit | sCommit | kCommit => cases hb
  | cfgSck hp => simp [ticksLeft, hp]
  | cfgDout hp | sSet hp | kSet hp =>
    rw [ticksLeft_at hp]
    exact enters _ _ _
  | readFound hp =>
    rw [ticksLeft_at hp]
    refine le_trans (le_of_eq ?_) (Nat.le_add_left _ _)
    change (24 - 0 + (s.sel.toNat + 1)) * pulseTicks s.cfg = _
    rw [totalPulses, show 24 - 0 + (s.sel.toNat + 1) = s.sel.toNat + 25 by omega]
  | poll q hp hf hd ht =>
    have hop : s.op = .read ∨ s.op = .waitReady := by
      rw [h.opOfPoint]
      obtain ⟨hp, -⟩ | ⟨hp, -⟩ := hp <;> simp [hp, Point.op]
    have hlater := elapsed_at_poll hl ht (h.tmoBound hop)
    have hwait : 0 < s.tmo.toNat - (elapsed s).toNat := Nat.sub_pos_of_lt ht
    have hstep := pollTicks_of_pos hP hwait
    rw [Nat.sub_sub, ← hlater] at hstep
    obtain ⟨hp, rfl⟩ | ⟨hp, rfl⟩ := hp
    · rw [ticksLeft_at hp]
      exact (Nat.add_le_add_right (enters _ _ _) _).trans hstep.le
    · rw [ticksLeft_at hp]
      exact Nat.add_le_add_right ((Nat.add_le_add_right (enters _ _ _) _).trans hstep.le) _
  | rise q hp =>
    obtain ⟨hp, rfl⟩ | ⟨hp, rfl⟩ := hp <;> rw [hp] at hcounts <;> obtain ⟨hbit, htrail⟩ := hcounts
    · have hs : ticksLeft s = (24 - s.bit + trailingPulses s.sel) * pulseTicks s.cfg := ticksLeft_at hp
      have := enters .dHigh s.cfg.tHighUs (driveSck 1 s)
      have := pulse (23 - s.bit + trailingPulses s.sel)
      rw [hs, show 24 - s.bit + trailingPulses s.sel = 23 - s.bit + trailingPulses s.sel + 1 by omega]
      change ticksToDue _ + s.cfg.tLowUs + (23 - s.bit + trailingPulses s.sel) * pulseTicks s.cfg ≤ _
      omega
    · have hs : ticksLeft s = (trailingPulses s.sel - s.trail) * pulseTicks s.cfg := ticksLeft_at hp
      have := enters .tHigh s.cfg.tHighUs (driveSck 1 s)
      have := pulse (trailingPulses s.sel - s.trail - 1)
      rw [hs, show trailingPulses s.sel - s.trail = trailingPulses s.sel - s.trail - 1 + 1 by omega]
      change ticksToDue _ + s.cfg.tLowUs + (trailingPulses s.sel - s.trail - 1) * pulseTicks s.cfg ≤ _
      omega
  | sample hp =>
    rw [hp] at hcounts
    rw [ticksLeft_at hp]
    change s.cfg.tLowUs + (24 - (s.bit + 1) + trailingPulses s.sel) * pulseTicks s.cfg ≤ _
    rw [show 24 - (s.bit + 1) = 23 - s.bit by omega]
    exact le_rfl
  | dFall hp =>
    rw [ticksLeft_at hp]
    exact Nat.add_le_add_right (enters _ _ _) _
  | tFall hp =>
    rw [ticksLeft_at hp]
    change _ ≤ s.cfg.tLowUs + (trailingPulses s.sel - s.trail - 1) * pulseTicks s.cfg
    rw [Nat.sub_sub]
    exact Nat.add_le_add_right (enters _ _ _) _
  | delayEnds hp =>
    have hdue := due_of_enabled he hp
    have hnow : s.now = s.due := ((engineEnabled_iff s).1 he).2.2 hp
    have hwait : (s.due - s.t0).toNat = (elapsed s).toNat := by rw [elapsed, hnow]
    cases hpp : s.pp <;> simp only [hpp, Point.isDelay, Bool.false_eq_true] at hp hcounts <;>
      rw [ticksLeft_at hpp] <;> simp only [afterDelay, hpp]
    case iSettle | kSettle | sHold => exact Nat.zero_le _
    case wPoll => exact Nat.le_add_left_of_le (by rw [hwait]; exact le_rfl)
    case rwPoll =>
      refine Nat.add_le_add_right (Nat.le_add_left_of_le ?_) _
      rw [hwait]
      exact le_rfl
    case dHigh | tHigh => exact Nat.add_le_add_right (Nat.le_add_left _ _) _
    case dLow =>
      split
      · exact Nat.le_add_left _ _
      · refine Nat.le_add_left_of_le (Nat.mul_le_mul_right _ ?_)
        exact (Nat.sub_le _ _).trans (Nat.le_add_left _ _)
    case tLow =>
      split
      · exact Nat.le_add_left _ _
      · exact Nat.zero_le _

/-- Settles O58: every move of a running command keeps the bound, and a time step, which happens only in a Delay, takes
one off. -/
theorem ticksLeftFallWithTime : Obligations.TicksLeftFallWithTime := by
  intro s t h hb hs hbt
  obtain ⟨hl, ts, d, ⟨hm, hx⟩ | ⟨e, hm, he, rfl⟩ | ⟨e, hm, rfl⟩ | ⟨hm, he, rfl⟩ | ⟨-, rfl⟩⟩ := step_cases s t hs
  · rw [hm, if_neg nofun]
    exact (ticksLeft_of_undisturbed (undisturbed_hostAccess_of_busy hx hb) (hostAccess_frame hx).now).le
  · rw [hm, if_neg nofun]
    exact ticksLeft_engineEvent (s := { s with turns := ts, draws := d }) (h.taken ts d) hl he (engineEvent_spec _ _) hbt
  · rw [hm, if_neg nofun]
    exact (ticksLeft_of_undisturbed (undisturbed_sensorMove e _) (sensorMove_now e _)).le
  · rw [if_pos hm]
    have hd : s.pp.isDelay = true := by
      by_contra hd
      have := enabled_of_point s hb (h.busyIff.1 hb) (Bool.eq_false_of_not_eq_true hd)
      simp [he] at this
    exact (ticksLeft_timeStep (s := { s with turns := ts, draws := d }) hd (now_ne_due hb hd he)).le
  · cases hbt

/-! ## The worst case -/

theorem totalPulses_le {sel : Sel} (h : sel ≠ 3) : totalPulses sel ≤ 27 := by
  revert sel; decide

/-- Settles O59: what is accepted starts with its worst case ahead, and what completes at once has nothing ahead. -/
theorem acceptedCommandHasWorstCaseLeft : Obligations.AcceptedCommandHasWorstCaseLeft := by
  intro s t i h hl hb hx
  obtain ⟨hbusy, -⟩ | ⟨-, st, -, rfl, -⟩ | ⟨-, hi, sel, rfl, rfl⟩ | ⟨-, hi, sel, rfl, rfl⟩ | ⟨-, hi, ha, rfl, rfl⟩
    | ⟨-, hi, ha, rfl, rfl⟩ | ⟨-, hi, rfl, rfl⟩ | ⟨-, hi, rfl, rfl⟩ := exec_cases i s t hx
  · cases hb.symm.trans hbusy
  · exact Nat.zero_le _
  · exact Nat.zero_le _
  · exact le_rfl
  · exact pollTicks_mono ((Nat.sub_le _ _).trans (argTimeout_le s.arg))
  · refine Nat.add_le_add (pollTicks_mono ((Nat.sub_le _ _).trans (readTimeout_toNat hl).le)) ?_
    exact Nat.mul_le_mul_right _ (totalPulses_le h.selLegal)
  · exact le_rfl
  · exact le_rfl

/-! ## Fair runs -/

/-- Inputs that arrive disturb neither the running command nor time. -/
theorem undisturbed_arrives (ts : List Turn) (ops : List HostOp) (s : State) : Undisturbed s (arrives ts ops s) :=
  ⟨by constructor <;> rfl, rfl, rfl, rfl, rfl, rfl, rfl, rfl, rfl⟩

/-- One step of a run with inputs, whose command runs on. -/
theorem InputRun.ticksLeft_succ {r : Nat → State} (hr : InputRun r) {n : Nat} (h : (r n).Inv) (hb : (r n).busy = true)
    (hb' : (r (n + 1)).busy = true) :
    (r (n + 1)).Inv ∧ ticksLeft (r (n + 1)) + (if (nextMove (r n)).1 = .tick then 1 else 0) ≤ ticksLeft (r n) := by
  obtain ⟨t, ts, ops, hs, hn⟩ := hr.steps n
  have same := undisturbed_arrives ts ops t
  rw [hn] at hb' ⊢
  refine ⟨(stepKeepsInv _ _ h hs).undisturbed_now same rfl, ?_⟩
  rw [ticksLeft_of_undisturbed same rfl]
  exact ticksLeftFallWithTime _ _ h hb hs hb'

/-- While its command runs, a run keeps the invariant and its bound does not rise. -/
theorem InputRun.ticksLeft_add {r : Nat → State} (hr : InputRun r) {n : Nat} (h : (r n).Inv)
    (hb : ∀ m, n ≤ m → (r m).busy = true) (k : Nat) :
    (r (n + k)).Inv ∧ ticksLeft (r (n + k)) ≤ ticksLeft (r n) := by
  induction k with
  | zero => exact ⟨h, le_rfl⟩
  | succ k ih =>
    obtain ⟨hinv, hle⟩ := ih
    obtain ⟨hinv', hle'⟩ := hr.ticksLeft_succ hinv (hb _ (by omega)) (hb _ (by omega))
    exact ⟨hinv', by rw [← Nat.add_assoc]; omega⟩

/-- In a fair run whose command runs for ever the bound would fall for ever. -/
theorem FairRun.not_running_forever {r : Nat → State} (hr : FairRun r) {n : Nat} (h : (r n).Inv) :
    ¬∀ m, n ≤ m → (r m).busy = true := by
  intro hb
  induction hk : ticksLeft (r n) using Nat.strong_induction_on generalizing n with
  | _ k ih =>
    obtain ⟨m, hm, htick⟩ := hr.fair n
    obtain ⟨d, rfl⟩ := Nat.exists_eq_add_of_le hm
    obtain ⟨hinv, hle⟩ := hr.ticksLeft_add h hb d
    obtain ⟨hinv', hlt⟩ := hr.ticksLeft_succ hinv (hb _ (by omega)) (hb _ (by omega))
    rw [if_pos htick] at hlt
    exact ih _ (by omega) hinv' (fun m hm' => hb m (by omega)) rfl

/-! ## An unfair run -/

/-- A WAIT_READY whose host reads STATUS before every move of the block: after n reads. -/
def starved (n : Nat) : State :=
  { Tests.atPoint .wPoll with
    turns := [.host], host := [.rd .status], trace := List.replicate n (statusWord (Tests.atPoint .wPoll)) }

theorem step_starved (n : Nat) : ∃ t, step (starved n) = .next t ∧ starved (n + 1) = arrives [.host] [.rd .status] t := by
  refine ⟨_, step_rd (s := starved n) (show (Tests.atPoint .wPoll).cfg.legal = true by decide) rfl rfl, ?_⟩
  rw [starved, List.replicate_succ']
  rfl

theorem inv_starved (n : Nat) : (starved n).Inv :=
  (Tests.inv_atPoint .wPoll (by decide)).undisturbed_now
    ⟨by constructor <;> rfl, rfl, rfl, rfl, rfl, rfl, rfl, rfl, rfl⟩ rfl

/-- Settles O60: in a fair run the bound would fall for ever, and the starved run is one of host accesses alone. -/
theorem everyCommandCompletesInFairRuns : Obligations.EveryCommandCompletesInFairRuns := by
  refine ⟨fun r n hr h _ => ?_, starved, ⟨fun n => ?_⟩, inv_starved 0, fun n => ⟨rfl, rfl, rfl⟩⟩
  · by_contra hnone
    refine hr.not_running_forever h fun m hm => ?_
    by_contra hb
    exact hnone ⟨m, hm, Bool.eq_false_of_not_eq_true hb⟩
  · obtain ⟨t, hs, hn⟩ := step_starved n
    exact ⟨t, _, _, hs, hn⟩

end Sys2Proof.Machine

/-! PROOFS. The engine and a conforming sensor: what holds between them is kept by every step (20_memory.md section 6,
41_acquire.md section 2). -/

namespace Sys2Proof.Machine

/-! ## The sensor under what the lines do -/

/-- The clauses on the sensor record and SCK alone. -/
structure Sensor.Sound (sck : Level) (x : Sensor) : Prop where
  lowWakes : sck = 0 → x.lowPower = false
  readyFresh : x.offer = .ready → x.pulses = 0
  readCounted : x.offer = .read → x.pulses ≠ 0

theorem SensorInv.sound {s : State} (h : SensorInv s) : s.sensor.Sound s.sck :=
  ⟨h.lowWakes, h.readyFresh, h.readCounted⟩

/-- A sensor on whose offer nothing is to be read. -/
theorem Sensor.Sound.of_offer {sck : Level} {x : Sensor} (hl : sck = 0 → x.lowPower = false) (hr : x.offer ≠ .ready)
    (hd : x.offer ≠ .read) : x.Sound sck := ⟨hl, fun h => absurd h hr, fun h => absurd h hd⟩

/-- What happens to an awake sensor when SCK falls: one pulse is complete (20_memory.md R64). -/
theorem Sensor.fall_of_awake {c : Config} {x : Sensor} (h : x.lowPower = false) : x.fall c = { x with
    offer := x.offer.pulse, pulses := x.pulses + 1
    nextSel := if x.offer.pulse = .read then selectorAfter (x.pulses + 1) else none } := by
  simp [Sensor.fall, h]

@[simp] theorem Sensor.fall_lowPower (c : Config) (x : Sensor) : (x.fall c).lowPower = false := by
  cases h : x.lowPower <;> simp [Sensor.fall, h]

@[simp] theorem Sensor.fall_view (c : Config) (x : Sensor) : (x.fall c).view = x.view := by
  cases h : x.lowPower <;> simp [Sensor.fall, h]

theorem Sensor.sound_fall (c : Config) (x : Sensor) (sck : Level) : (x.fall c).Sound sck := by
  cases h : x.lowPower
  · rw [Sensor.fall_of_awake h]
    exact ⟨fun _ => h, fun h => absurd h x.offer.pulse_ne_ready, fun _ => Nat.succ_ne_zero _⟩
  · exact .of_offer (fun _ => Sensor.fall_lowPower c x) (by simp [Sensor.fall, h]) (by simp [Sensor.fall, h])

theorem sound_driveSck {s : State} (h : s.sensor.Sound s.sck) (l : Level) : (driveSck l s).sensor.Sound l := by
  obtain rfl | rfl := level_cases l
  · rw [driveSck_low_sensor]
    split
    · obtain ⟨h1, h2, h3⟩ := Sensor.sound_fall s.cfg s.sensor 0
      exact ⟨h1, h2, h3⟩
    · next hs => rwa [(level_cases s.sck).resolve_right hs] at h
  · rw [driveSck_high_sensor]
    split <;> exact ⟨nofun, h.readyFresh, h.readCounted⟩

/-- SCK does not make the sensor's state known or unknown. -/
@[simp] theorem driveSck_view (l : Level) (s : State) : (driveSck l s).sensor.view = s.sensor.view := by
  simp only [driveSck]
  split
  · exact Sensor.fall_view _ _
  · split <;> rfl

@[simp] theorem driveSck_known (l : Level) (s : State) : (driveSck l s).sensor.known = s.sensor.known := by
  simp [Sensor.known]

/-- SCK driven high changes at most the count of high ticks. -/
theorem driveSck_high_same (s : State) : ∃ n, (driveSck 1 s).sensor = { s.sensor with highFor := n } := by
  rw [driveSck_high_sensor]
  split
  · exact ⟨0, rfl⟩
  · exact ⟨s.sensor.highFor, rfl⟩

/-- SCK falling before an awake sensor. -/
theorem driveSck_pulse {s : State} (hs : s.sck = 1) (hl : s.sensor.lowPower = false) : (driveSck 0 s).sensor = { s.sensor with
    offer := s.sensor.offer.pulse, pulses := s.sensor.pulses + 1, highFor := 0
    nextSel := if s.sensor.offer.pulse = .read then selectorAfter (s.sensor.pulses + 1) else none } := by
  rw [driveSck_low_sensor, if_pos hs, Sensor.fall_of_awake hl]

/-- Every event keeps the sensor sound. -/
theorem EventTo.sound {e : Bool} {s t : State} (h : s.sensor.Sound s.sck) (hev : EventTo e s t) :
    t.sensor.Sound t.sck := by
  cases hev with
  | idle | cfgFails | iCommit | found | readFound | timedOut | poll | sample | rCommit | sCommit | kCommit | delayEnds =>
    exact h
  | cfgSck =>
    exact .of_offer (sound_driveSck h 0).lowWakes (Offer.powerCycle_ne_ready _) (Offer.powerCycle_ne_read _)
  | cfgDout => exact ⟨h.lowWakes, h.readyFresh, h.readCounted⟩
  | getFails => exact .of_offer h.lowWakes nofun nofun
  | setFails => exact .of_offer (sound_driveSck h _).lowWakes nofun nofun
  | rise | sSet => exact sound_driveSck h 1
  | dFall | tFall => exact sound_driveSck h 0
  | kSet =>
    obtain ⟨h1, h2, h3⟩ := sound_driveSck h 0
    exact ⟨h1, h2, h3⟩

/-! ## Whether the sensor's state is known -/

/-- The clauses on the view. -/
structure ViewAgrees (s : State) : Prop where
  unknown : s.init = false → s.pp ∉ [Point.iSettle, .iCommit] → s.sensor.known = false
  noDoubt : s.init = true ∨ s.pp ∈ [Point.iSettle, .iCommit] → s.sensor.view ≠ .untilInit

theorem SensorInv.viewAgrees {s : State} (h : SensorInv s) : ViewAgrees s := ⟨h.unknownUntilInit, h.initEndsDoubt⟩

theorem ViewAgrees.of_init {t : State} (hi : t.init = true) (hv : t.sensor.view ≠ .untilInit) : ViewAgrees t where
  unknown h := by cases hi.symm.trans h
  noDoubt _ := hv

theorem EventTo.viewAgrees {e : Bool} {s t : State} (h : s.Inv) (hidle : s.pp ≠ .idle) (hv : ViewAgrees s)
    (hev : EventTo e s t) : ViewAgrees t := by
  have kept : s.pp.op ≠ .init → ∀ u : State, u.init = s.init → u.sensor.view = s.sensor.view → ViewAgrees u :=
    fun hop u hi hu =>
      have hs := h.init_eq_true hidle hop
      .of_init (hi.trans hs) (hu ▸ hv.noDoubt (.inl hs))
  have initialising : s.pp.op = .init → s.init = false := h.init_eq_false
  cases hev with
  | idle hp => exact absurd hp hidle
  | cfgFails hp =>
    have hi : s.init = false := initialising (by obtain hp | hp := hp <;> rw [hp] <;> rfl)
    have hk := hv.unknown hi (by obtain hp | hp := hp <;> simp [hp])
    exact ⟨fun _ _ => hk, by simp [hi]⟩
  | cfgSck hp =>
    have hi : s.init = false := initialising (by rw [hp]; rfl)
    have hk := hv.unknown hi (by simp [hp])
    exact ⟨fun _ _ => (driveSck_known 0 s).trans hk, by simp [hi]⟩
  | cfgDout =>
    refine ⟨by simp, fun _ => ?_⟩
    cases hview : s.sensor.view <;> simp [Sensor.configured, View.afterInit, hview]
  | iCommit hp =>
    have hd := hv.noDoubt (.inr (by simp [hp]))
    exact .of_init rfl hd
  | getFails hp => exact .of_init (h.init_eq_true hidle (op_ne_init_of_get hp)) nofun
  | setFails hp => exact .of_init (h.init_eq_true hidle (op_ne_init_of_set hp)) nofun
  | timedOut hp => exact kept (by obtain hp | hp := hp <;> simp [hp, Point.op]) _ rfl rfl
  | poll q hp => exact kept (by obtain ⟨hp, -⟩ | ⟨hp, -⟩ := hp <;> simp [hp, Point.op]) _ rfl rfl
  | rise q hp =>
    exact kept (by obtain ⟨hp, -⟩ | ⟨hp, -⟩ := hp <;> simp [hp, Point.op]) _ rfl (driveSck_view 1 s)
  | found hp | readFound hp | sample hp | rCommit hp | sCommit hp | kCommit hp =>
    exact kept (by simp [hp, Point.op]) _ rfl rfl
  | dFall hp | tFall hp => exact kept (by simp [hp, Point.op]) _ rfl (driveSck_view 0 s)
  | sSet hp => exact kept (by simp [hp, Point.op]) _ rfl (driveSck_view 1 s)
  | kSet hp =>
    have hi := h.init_eq_true hidle (by simp [hp, Point.op])
    refine .of_init hi ?_
    have hd := hv.noDoubt (.inl hi)
    simp only [holdAt_sensor, wakeSensor, driveSck_view]
    split
    · nofun
    · exact hd
  | delayEnds hp =>
    by_cases hi : s.pp = .iSettle
    · have hd := hv.noDoubt (.inr (by simp [hi]))
      exact ⟨by simp [afterDelay, hi], fun _ => hd⟩
    · exact kept (op_ne_init_of_delay hp hi) _ rfl rfl

/-! ## What they agree on while it is known -/

/-- READ and WAIT_READY run in an initialised, awake engine, so SCK is low at their low points. -/
theorem SensorInv.sck_low {s : State} (h : s.Inv) (hv : SensorInv s) (hk : s.sensor.known = true)
    (hop : s.pp.op = .read ∨ s.pp.op = .waitReady) (hp : s.pp.sckLow = true) : s.sck = 0 := by
  refine hv.sckLow hk (h.init_eq_true ?_ ?_) (h.awakeRunning (h.opOfPoint ▸ hop)) hp
  · rintro hp; simp [hp, Point.op] at hop
  · obtain hop | hop := hop <;> simp [hop]

theorem EventTo.sckLow {e : Bool} {s t : State} (h : s.Inv) (hv : SensorInv s) (hev : EventTo e s t)
    (hk : t.sensor.known = true) (hi : t.init = true) (ha : t.asleep = false) (hp : t.pp.sckLow = true) : t.sck = 0 := by
  have low : s.sensor.known = true → s.pp.op = .read ∨ s.pp.op = .waitReady → s.pp.sckLow = true → s.sck = 0 :=
    hv.sck_low h
  cases hev with
  | idle => exact hv.sckLow hk hi ha hp
  | cfgFails hp' =>
    have : s.init = false := h.init_eq_false (by obtain hp | hp := hp' <;> rw [hp] <;> rfl)
    cases this.symm.trans hi
  | cfgSck | cfgDout | sample | sSet | kSet => cases hp
  | rise q hp' => obtain ⟨-, rfl⟩ | ⟨-, rfl⟩ := hp' <;> cases hp
  | dFall | tFall => rfl
  | getFails | setFails => cases hk
  | sCommit => cases ha
  | iCommit hp' | kCommit hp' =>
    have hs := hv.settled hk
    rw [settleAgrees, hp'] at hs
    exact hs.1
  | found hp' | readFound hp' | rCommit hp' => exact low hk (by simp [hp', Point.op]) (by rw [hp']; rfl)
  | timedOut hp' => obtain hp' | hp' := hp' <;> exact low hk (by simp [hp', Point.op]) (by rw [hp']; rfl)
  | poll q hp' =>
    obtain ⟨hp', -⟩ | ⟨hp', -⟩ := hp' <;> exact low hk (by simp [hp', Point.op]) (by rw [hp']; rfl)
  | delayEnds hp' =>
    have hlow : s.pp.sckLow = true := by
      unfold afterDelay at hp
      cases hpp : s.pp <;> simp only [hpp, Point.isDelay, Bool.false_eq_true] at hp' hp <;> first | rfl | cases hp
    exact hv.sckLow hk hi ha hlow

/-- In a high phase of a READ, SCK has been high no longer than T_HIGH_US (70_reset_and_hazards.md R141). -/
theorem EventTo.highAgrees {e : Bool} {s t : State} (h : s.Inv) (hl : s.cfg.legal = true) (hv : SensorInv s)
    (hev : EventTo e s t) (hk : t.sensor.known = true) : highAgrees t := by
  have high : s.sensor.known = true → Machine.highAgrees s := hv.high
  unfold Machine.highAgrees at high
  cases hev with
  | idle => exact hv.high hk
  | cfgFails | cfgSck | cfgDout | iCommit | getFails | setFails | found | readFound | timedOut | dFall | tFall | rCommit
  | sSet | sCommit | kSet | kCommit => trivial
  | poll q hp => obtain ⟨-, rfl⟩ | ⟨-, rfl⟩ := hp <;> trivial
  | rise q hp =>
    have hs : s.sck = 0 := by
      have hk : s.sensor.known = true := (driveSck_known 1 s).symm.trans hk
      obtain ⟨hp, -⟩ | ⟨hp, -⟩ := hp <;> exact hv.sck_low h hk (by simp [hp, Point.op]) (by rw [hp]; rfl)
    have hx : (driveSck 1 s).sensor = { s.sensor with highFor := 0 } := by rw [driveSck_high_sensor, if_pos hs]
    have hticks := ticksToDue_holdAt_le q s.cfg.tHighUs (driveSck 1 s)
    have hH : s.cfg.tHighUs ≤ 50 := ((legal_iff s.cfg).1 hl).1.2
    have hend : (driveSck 1 s).sck = 1 ∧ (driveSck 1 s).sensor.lowPower = false
        ∧ (driveSck 1 s).sensor.highFor + ticksToDue (holdAt q s.cfg.tHighUs (driveSck 1 s)) ≤ 50 := by
      rw [hx]
      exact ⟨rfl, hv.lowWakes hs, (Nat.zero_add _).trans_le (hticks.trans hH)⟩
    obtain ⟨-, rfl⟩ | ⟨-, rfl⟩ := hp <;> exact hend
  | sample hp =>
    have := high hk
    rw [hp] at this
    exact this
  | delayEnds hp =>
    unfold afterDelay
    have := high hk
    cases hpp : s.pp <;> simp only [hpp, Point.isDelay, Bool.false_eq_true] at hp this
    case dHigh | tHigh =>
      obtain ⟨hsck, hlow, hfor⟩ := this
      exact ⟨hsck, hlow, (Nat.le_add_right _ _).trans hfor⟩
    case dLow | tLow => simp only []; split <;> trivial
    all_goals trivial

/-- Away from the settle delay and the commits after it, an initialised engine's sensor is settled. -/
theorem SensorInv.settle_eq_zero {s : State} (hv : SensorInv s) (hk : s.sensor.known = true) (hi : s.init = true)
    (hp : s.pp ∉ [Point.iSettle, .iCommit, .kSettle, .kCommit]) : s.sensor.settle = 0 := by
  have hs := hv.settled hk
  unfold settleAgrees at hs
  simp only [List.mem_cons, List.not_mem_nil, or_false, not_or] at hp
  obtain ⟨h1, h2, h3, h4⟩ := hp
  split at hs
  · exact absurd ‹_› h1
  · exact absurd ‹_› h2
  · exact absurd ‹_› h3
  · exact absurd ‹_› h4
  · exact hs hi

theorem settleTicks_lt {c : Config} (hl : c.legal = true) : settleTicks c < 2 ^ 64 := by
  obtain ⟨-, -, -, ⟨-, h⟩, -⟩ := (legal_iff c).1 hl
  unfold settleTicks msTicks
  omega

/-- At the falls of a READ's pulses SCK is high and the sensor awake. -/
theorem SensorInv.at_fall {s : State} (hv : SensorInv s) (hk : s.sensor.known = true)
    (hp : s.pp = .dFall ∨ s.pp = .tFall) : s.sck = 1 ∧ s.sensor.lowPower = false := by
  have high := hv.high hk
  unfold Machine.highAgrees at high
  obtain hp | hp := hp <;> rw [hp] at high <;> exact ⟨high.1, high.2.1⟩

/-- So they are one pulse for it. -/
theorem SensorInv.driveSck_at_fall {s : State} (hv : SensorInv s) (hk : s.sensor.known = true)
    (hp : s.pp = .dFall ∨ s.pp = .tFall) : (driveSck 0 s).sensor = { s.sensor with
      offer := s.sensor.offer.pulse, pulses := s.sensor.pulses + 1, highFor := 0
      nextSel := if s.sensor.offer.pulse = .read then selectorAfter (s.sensor.pulses + 1) else none } :=
  have h := hv.at_fall hk hp
  driveSck_pulse h.1 h.2

/-- The settle delay of a sensor whose SCK a WAKE drives low is at most WAKE's own (42_power.md R107 (a)). -/
theorem SensorInv.settle_at_wake {s : State} (hv : SensorInv s) (hi : s.init = true) (hp : s.pp = .kSet)
    (hk : (wakeSensor s.sensor (driveSck 0 s)).sensor.known = true) :
    (wakeSensor s.sensor (driveSck 0 s)).sensor.settle ≤ settleTicks s.cfg := by
  change (driveSck 0 s).sensor.settle ≤ _
  cases hlow : s.sensor.lowPower
  · have hk : s.sensor.known = true := by
      simpa [wakeSensor, hlow, Sensor.known] using hk
    have hsettle := hv.settle_eq_zero hk hi (by simp [hp])
    rw [driveSck_low_sensor, Sensor.fall_of_awake hlow]
    split <;> exact hsettle.trans_le (Nat.zero_le _)
  · have hs : s.sck = 1 := (level_cases s.sck).resolve_left fun h => by cases hlow.symm.trans (hv.lowWakes h)
    rw [driveSck_low_sensor, if_pos hs]
    simp [Sensor.fall, hlow]

theorem EventTo.settleAgrees {e : Bool} {s t : State} (h : s.Inv) (hl : s.cfg.legal = true)
    (he : s.engineEnabled = true) (hv : SensorInv s) (hev : EventTo e s t) (hk : t.sensor.known = true) :
    settleAgrees t := by
  have settled : s.sensor.known = true → Machine.settleAgrees s := hv.settled
  have zero : s.sensor.known = true → s.init = true → s.pp ∉ [Point.iSettle, .iCommit, .kSettle, .kCommit] →
    s.sensor.settle = 0 := hv.settle_eq_zero
  have full : ∀ (p : Point) (u : State), ticksToDue (holdAt p (settleTicks s.cfg) u) = settleTicks s.cfg :=
    fun p u => (ticksToDue_holdAt p _ u).trans (Nat.mod_eq_of_lt (settleTicks_lt hl))
  cases hev with
  | idle => exact hv.settled hk
  | cfgFails hp =>
    have hi : s.init = false := h.init_eq_false (by obtain hp | hp := hp <;> rw [hp] <;> rfl)
    exact fun hi' => by cases hi.symm.trans hi'
  | cfgSck hp =>
    have hi : s.init = false := h.init_eq_false (by rw [hp]; rfl)
    exact fun hi' => by cases hi.symm.trans hi'
  | cfgDout hp =>
    obtain ⟨hs, hsettle⟩ := hv.poweredUp hp
    exact ⟨hs, hsettle.trans (full _ _).ge⟩
  | getFails | setFails => cases hk
  | iCommit hp | kCommit hp =>
    have := settled hk
    rw [Machine.settleAgrees, hp] at this
    exact fun _ => this.2
  | found hp | readFound hp | sample hp | rCommit hp | sCommit hp => exact fun hi => zero hk hi (by simp [hp])
  | timedOut hp => exact fun hi => zero hk hi (by obtain hp | hp := hp <;> simp [hp])
  | poll q hp => obtain ⟨hp, rfl⟩ | ⟨hp, rfl⟩ := hp <;> exact fun hi => zero hk hi (by simp [hp])
  | rise q hp =>
    have known : s.sensor.known = true := (driveSck_known 1 s).symm.trans hk
    obtain ⟨n, hn⟩ := driveSck_high_same s
    have hsame : (driveSck 1 s).sensor.settle = s.sensor.settle := by rw [hn]
    obtain ⟨hp, rfl⟩ | ⟨hp, rfl⟩ := hp <;> exact fun hi => hsame.trans (zero known hi (by simp [hp]))
  | sSet hp =>
    have hk : s.sensor.known = true := (driveSck_known 1 s).symm.trans hk
    obtain ⟨n, hn⟩ := driveSck_high_same s
    have hsame : (driveSck 1 s).sensor.settle = s.sensor.settle := by rw [hn]
    exact fun hi => hsame.trans (zero hk hi (by simp [hp]))
  | dFall hp =>
    have hk : s.sensor.known = true := (driveSck_known 0 s).symm.trans hk
    have hsame : (driveSck 0 s).sensor.settle = s.sensor.settle := by rw [hv.driveSck_at_fall hk (.inl hp)]
    exact fun hi => hsame.trans (zero hk hi (by simp [hp]))
  | tFall hp =>
    have hk : s.sensor.known = true := (driveSck_known 0 s).symm.trans hk
    have hsame : (driveSck 0 s).sensor.settle = s.sensor.settle := by rw [hv.driveSck_at_fall hk (.inr hp)]
    exact fun hi => hsame.trans (zero hk hi (by simp [hp]))
  | kSet hp =>
    have hi : s.init = true := h.init_eq_true (by simp [hp]) (by simp [hp, Point.op])
    exact ⟨rfl, (hv.settle_at_wake hi hp hk).trans (full _ _).ge⟩
  | delayEnds hp =>
    have hdue := due_of_enabled he hp
    have now := settled hk
    have zero := zero hk
    unfold afterDelay
    unfold Machine.settleAgrees at now
    cases hpp : s.pp <;> simp only [hpp, Point.isDelay, Bool.false_eq_true] at hp now
    case iSettle | kSettle => exact ⟨now.1, Nat.le_zero.1 (hdue ▸ now.2)⟩
    case dLow | tLow => simp only []; split <;> exact now
    all_goals exact now

/-- What poweredUp says: only PinCfg(SCK) leads to I_CFG_DOUT. -/
theorem EventTo.poweredUp {e : Bool} {s t : State} (hv : SensorInv s) (hev : EventTo e s t) (hp : t.pp = .iCfgDout) :
    t.sck = 0 ∧ t.sensor.settle ≤ settleTicks t.cfg := by
  cases hev with
  | idle => exact hv.poweredUp hp
  | cfgSck => exact ⟨rfl, le_rfl⟩
  | poll q hp' | rise q hp' => obtain ⟨-, rfl⟩ | ⟨-, rfl⟩ := hp' <;> cases hp
  | delayEnds hp' =>
    have hop := afterDelay_op hp'
    have hq : afterDelay s = .iCfgDout := hp
    unfold afterDelay at hq
    cases hpp : s.pp <;> simp only [hpp] at hq <;> (try split at hq) <;> cases hq
  | _ => cases hp

/-! ## READs of ready conversions -/

/-- At a point of the pulses, a READ of a ready conversion is one whose pulses the sensor has counted. -/
theorem readsReady_at {s : State} {p : Point} (hp : s.pp = p) :
    readsReady s ↔ (s.sensor.offer = .ready ∨ s.sensor.offer = .read) ∧ s.sensor.pulses = pulsesDone { s with pp := p } := by
  subst hp; rfl

/-- The sensor counts a pulse as the engine does. -/
theorem SensorInv.counts_at_fall {s : State} (hv : SensorInv s) (hk : s.sensor.known = true)
    (hp : s.pp = .dFall ∨ s.pp = .tFall) {n m : Nat} (hn : m = n + 1) :
    ((driveSck 0 s).sensor.offer = .ready ∨ (driveSck 0 s).sensor.offer = .read) ∧ (driveSck 0 s).sensor.pulses = m
      ↔ (s.sensor.offer = .ready ∨ s.sensor.offer = .read) ∧ s.sensor.pulses = n := by
  rw [hv.driveSck_at_fall hk hp, hn]
  simp

/-- Through the shifts of a READ the sensor counts with the engine: whether a conversion that was ready is read does not
change, nor which one. -/
theorem EventTo.readsReady_iff {e : Bool} {s t : State} (h : s.Inv) (hv : SensorInv s) (hev : EventTo e s t)
    (hk : t.sensor.known = true) (hp : s.pp.shifts = true) (hpt : t.pp.shifts = true) :
    (readsReady t ↔ readsReady s) ∧ t.sensor.code = s.sensor.code ∧ t.sensor.codeSel = s.sensor.codeSel := by
  have hcounts := h.readCounters
  unfold readCounts at hcounts
  cases hev with
  | idle => exact ⟨Iff.rfl, rfl, rfl⟩
  | sample hp' =>
    rw [readsReady_at hp']
    exact ⟨Iff.rfl, rfl, rfl⟩
  | rise q hp' =>
    obtain ⟨n, hn⟩ := driveSck_high_same s
    have hcode : (driveSck 1 s).sensor.code = s.sensor.code := by rw [hn]
    have hsel : (driveSck 1 s).sensor.codeSel = s.sensor.codeSel := by rw [hn]
    refine ⟨?_, hcode, hsel⟩
    obtain ⟨hp', rfl⟩ | ⟨hp', rfl⟩ := hp' <;> rw [readsReady_at hp', readsReady, holdAt_sensor, hn] <;> rfl
  | dFall hp' =>
    have known : s.sensor.known = true := (driveSck_known 0 s).symm.trans hk
    have hx := hv.driveSck_at_fall known (.inl hp')
    rw [hp'] at hcounts
    rw [readsReady_at hp']
    refine ⟨hv.counts_at_fall known (.inl hp') ?_, ?_, ?_⟩
    · exact (Nat.succ_pred_eq_of_pos hcounts.1).symm
    · rw [holdAt_sensor, hx]
    · rw [holdAt_sensor, hx]
  | tFall hp' =>
    have known : s.sensor.known = true := (driveSck_known 0 s).symm.trans hk
    have hx := hv.driveSck_at_fall known (.inr hp')
    rw [readsReady_at hp']
    refine ⟨hv.counts_at_fall known (.inr hp') rfl, ?_, ?_⟩
    · exact (congrArg Sensor.code hx :)
    · exact (congrArg Sensor.codeSel hx :)
  | delayEnds hp' =>
    refine ⟨?_, rfl, rfl⟩
    have hpulses : pulsesDone (goTo (afterDelay s) s) = pulsesDone s := by
      unfold pulsesDone afterDelay
      cases hpp : s.pp <;> simp only [hpp, Point.isDelay, Point.shifts, Bool.false_eq_true] at hp' hp hcounts
      case dHigh | tHigh => rfl
      case dLow =>
        have hbit := h.counters.1
        by_cases hlt : s.bit < 24
        · simp [hlt]
        · simp [hlt, hcounts.2]
          omega
      case tLow => by_cases hlt : s.trail < trailingPulses s.sel <;> simp [hlt]
    rw [readsReady, hpulses]
    rfl
  | poll q hp' => obtain ⟨-, rfl⟩ | ⟨-, rfl⟩ := hp' <;> cases hpt
  | readFound hp' => rw [hp'] at hp; cases hp
  | _ => cases hpt

/-- The shift of D_SAMPLE in numbers (20_memory.md R49). -/
theorem shiftIn_toNat (acc : Code) (r : Level) : (shiftIn acc r).toNat = (acc.toNat * 2 + r.toNat) % 2 ^ 24 := by
  have hr := r.isLt
  rw [shiftIn, BitVec.toNat_append, ← Nat.shiftLeft_add_eq_or_of_lt hr]
  simp only [BitVec.extractLsb'_toNat, Nat.shiftRight_zero, Nat.shiftLeft_eq]
  omega

/-- The bits of a number above position n, with bit n below them. -/
theorem div_two_pow_eq (c n : Nat) : c / 2 ^ n = c / 2 ^ (n + 1) * 2 + (BitVec.ofBool (c.testBit n)).toNat := by
  have hbit : (BitVec.ofBool (c.testBit n)).toNat = c / 2 ^ n % 2 := by
    rw [Nat.testBit_eq_decide_div_mod_eq]
    rcases Nat.mod_two_eq_zero_or_one (c / 2 ^ n) with h | h <;> simp [h]
  rw [hbit, pow_succ, ← Nat.div_div_eq_div_mul]
  omega

/-- The accumulator takes the next bit of the code (41_acquire.md R93). -/
theorem shiftIn_code_bit {acc code : Code} {k : Nat} (hacc : acc.toNat = code.toNat / 2 ^ (24 - k)) (hk : k < 24) :
    (shiftIn acc (BitVec.ofBool (code.getLsbD (23 - k)))).toNat = code.toNat / 2 ^ (24 - (k + 1)) := by
  have hcode := div_two_pow_eq code.toNat (23 - k)
  have hlt : code.toNat / 2 ^ (23 - k) < 2 ^ 24 := (Nat.div_le_self _ _).trans_lt code.isLt
  rw [show 24 - k = 23 - k + 1 by omega] at hacc
  rw [shiftIn_toNat, hacc, show 24 - (k + 1) = 23 - k by omega, BitVec.getLsbD, ← hcode, Nat.mod_eq_of_lt hlt]

/-- In the data phase of a READ the sensor answers by rule. -/
theorem SensorInv.answers_at_sample {s : State} (h : s.Inv) (hv : SensorInv s) (hk : s.sensor.known = true)
    (hp : s.pp = .dSample) : s.sensor.answers = true := by
  have high := hv.high hk
  rw [Machine.highAgrees, hp] at high
  have hsettle := hv.settle_eq_zero hk (h.init_eq_true (by simp [hp]) (by simp [hp, Point.op])) (by simp [hp])
  simp [Sensor.answers, hk, high.2.1, hsettle]

/-- The pulses of a selector's read program that selector (20_memory.md R64). -/
theorem selectorAfter_trailing (sel : Sel) : selectorAfter (24 + trailingPulses sel) = selectorOf sel := by
  revert sel; decide

theorem readAgrees_at {s : State} {p : Point} (hp : s.pp = p) (h : readAgrees s) : readAgrees { s with pp := p } := by
  subst hp; exact h

/-- The accumulator's clause reads nothing but the accumulator, the counter and the code. -/
theorem accHoldsCode_of_same {s t : State} (h : accHoldsCode s) (ha : t.acc = s.acc) (hb : t.bit = s.bit)
    (hc : t.sensor.code = s.sensor.code) : accHoldsCode t := by
  rw [accHoldsCode, ha, hb, hc]; exact h

theorem EventTo.readAgrees {e : Bool} {s t : State} (h : s.Inv) (hv : SensorInv s) (hd : doutConforms s)
    (hev : EventTo e s t) (hk : t.sensor.known = true) : readAgrees t := by
  have hcounts := h.readCounters
  unfold readCounts at hcounts
  have before : ∀ {p}, s.pp = p → s.sensor.known = true → Machine.readAgrees { s with pp := p } :=
    fun hp known => readAgrees_at hp (hv.reads known)
  have same := hev.readsReady_iff h hv hk
  intro hr
  cases hev with
  | idle => exact hv.reads hk hr
  | readFound hp' => exact (Nat.div_eq_of_lt s.sensor.code.isLt).symm
  | sample hp' =>
    have hready := (same (by rw [hp']; rfl) rfl).1.1 hr
    have hdout := hd (hv.answers_at_sample h hk hp')
    rw [hp'] at hdout hcounts
    have hacc : accHoldsCode s := before hp' hk ((readsReady_at hp').1 hready)
    have hnext := shiftIn_code_bit hacc hcounts.1
    rwa [← hdout hready] at hnext
  | rise q hp' =>
    have known : s.sensor.known = true := (driveSck_known 1 s).symm.trans hk
    obtain ⟨hp', rfl⟩ | ⟨hp', rfl⟩ := hp'
    · obtain ⟨hready, hcode, -⟩ := same (by rw [hp']; rfl) rfl
      have hacc := before hp' known ((readsReady_at hp').1 (hready.1 hr))
      exact accHoldsCode_of_same (s := s) hacc rfl rfl hcode
    · obtain ⟨hready, hcode, -⟩ := same (by rw [hp']; rfl) rfl
      exact (before hp' known ((readsReady_at hp').1 (hready.1 hr))).trans hcode.symm
  | dFall hp' =>
    have known : s.sensor.known = true := (driveSck_known 0 s).symm.trans hk
    obtain ⟨hready, hcode, -⟩ := same (by rw [hp']; rfl) rfl
    have hacc := before hp' known ((readsReady_at hp').1 (hready.1 hr))
    exact accHoldsCode_of_same (s := s) hacc rfl rfl hcode
  | tFall hp' =>
    have known : s.sensor.known = true := (driveSck_known 0 s).symm.trans hk
    obtain ⟨hready, hcode, -⟩ := same (by rw [hp']; rfl) rfl
    have hs := (readsReady_at hp').1 (hready.1 hr)
    refine ⟨(before hp' known hs).trans hcode.symm, ?_⟩
    change (driveSck 0 s).sensor.nextSel = selectorAfter (driveSck 0 s).sensor.pulses
    rw [hv.driveSck_at_fall known (.inr hp')]
    exact if_pos ((Offer.pulse_eq_read _).2 hs.1)
  | delayEnds hp' =>
    have ready : s.pp.shifts = true → (afterDelay s).shifts = true → readsReady s :=
      fun hp hpt => (same hp hpt).1.1 hr
    cases hpp : s.pp <;> simp only [hpp, Point.isDelay, Bool.false_eq_true] at hp' hcounts
    case dHigh | tHigh =>
      have hs := ready (by rw [hpp]; rfl) (by simp [afterDelay, hpp, Point.shifts])
      simp only [afterDelay, hpp]
      exact before hpp hk ((readsReady_at hpp).1 hs)
    case dLow =>
      have hs := ready (by rw [hpp]; rfl) (by simp only [afterDelay, hpp]; split <;> rfl)
      have hacc : accHoldsCode s := before hpp hk ((readsReady_at hpp).1 hs)
      simp only [afterDelay, hpp]
      by_cases hlt : s.bit < 24
      · rw [if_pos hlt]
        exact hacc
      · rw [if_neg hlt]
        rw [accHoldsCode, Nat.le_antisymm h.counters.1 (Nat.le_of_not_lt hlt)] at hacc
        exact BitVec.eq_of_toNat_eq (by simpa using hacc)
    case tLow =>
      have hs := ready (by rw [hpp]; rfl) (by simp only [afterDelay, hpp]; split <;> rfl)
      obtain ⟨hacc, hnext⟩ : s.acc = s.sensor.code ∧ s.sensor.nextSel = selectorAfter s.sensor.pulses :=
        before hpp hk ((readsReady_at hpp).1 hs)
      simp only [afterDelay, hpp]
      by_cases hlt : s.trail < trailingPulses s.sel
      · rw [if_pos hlt]
        exact hacc
      · rw [if_neg hlt]
        have htrail := Nat.le_antisymm hcounts.2.2 (Nat.le_of_not_lt hlt)
        have hpulses : s.sensor.pulses = 24 + s.trail := ((readsReady_at hpp).1 hs).2
        exact ⟨hacc, by rw [goTo_sensor, hnext, hpulses, htrail, selectorAfter_trailing]; rfl⟩
    all_goals simp only [afterDelay, hpp]; trivial
  | poll q hp' => obtain ⟨-, rfl⟩ | ⟨-, rfl⟩ := hp' <;> trivial
  | _ => trivial

/-! ## Every move -/

/-- The engine's events keep what holds between it and a conforming sensor. -/
theorem sensorInv_engineEvent {e : Bool} {s t : State} (h : s.Inv) (hl : s.cfg.legal = true)
    (he : s.engineEnabled = true) (hv : SensorInv s) (hd : doutConforms s) (hev : EventTo e s t) : SensorInv t := by
  obtain ⟨-, hidle, -⟩ := (engineEnabled_iff s).1 he
  obtain ⟨lowWakes, readyFresh, readCounted⟩ := hev.sound hv.sound
  obtain ⟨unknown, noDoubt⟩ := hev.viewAgrees h hidle hv.viewAgrees
  exact ⟨lowWakes, unknown, noDoubt, readyFresh, readCounted, hev.sckLow h hv, hev.highAgrees h hl hv, hev.poweredUp hv,
    hev.settleAgrees h hl he hv, hev.readAgrees h hv hd⟩

/-- A move that disturbs neither the engine nor the sensor, with time standing still. -/
theorem SensorInv.undisturbed {s t : State} (hv : SensorInv s) (same : Undisturbed s t) (hn : t.now = s.now)
    (hx : t.sensor = s.sensor) : SensorInv t where
  lowWakes := by rw [same.sck, hx]; exact hv.lowWakes
  unknownUntilInit := by rw [same.init, same.pp, hx]; exact hv.unknownUntilInit
  initEndsDoubt := by rw [same.init, same.pp, hx]; exact hv.initEndsDoubt
  readyFresh := by rw [hx]; exact hv.readyFresh
  readCounted := by rw [hx]; exact hv.readCounted
  sckLow := by rw [same.init, same.asleep, same.pp, same.sck, hx]; exact hv.sckLow
  high := by
    have := hv.high
    unfold highAgrees at this ⊢
    rw [same.pp, same.sck, hx, ticksToDue, same.due, hn]
    exact this
  poweredUp := by rw [same.pp, same.sck, same.cfg, hx]; exact hv.poweredUp
  settled := by
    have := hv.settled
    unfold settleAgrees at this ⊢
    rw [same.pp, same.sck, same.init, hx, ticksToDue, same.due, hn]
    exact this
  reads := by
    have := hv.reads
    unfold readAgrees readsReady pulsesDone accHoldsCode at this ⊢
    rw [same.pp, same.bit, same.trail, same.acc, same.sel, hx]
    exact this

/-- From IDLE to where a command starts, or to IDLE again, there is nothing to agree on but the lines and the sensor. -/
theorem SensorInv.of_idle {s t : State} (hv : SensorInv s) (hp : s.pp = .idle) (ht : t.pp ∈ Point.idle :: Point.starts)
    (same : HostFrame s t) : SensorInv t := by
  have settle : s.sensor.known = true → s.init = true → s.sensor.settle = 0 :=
    fun hk hi => hv.settle_eq_zero hk hi (by simp [hp])
  have notIn : t.pp ∉ [Point.iSettle, .iCommit] := by
    revert ht; generalize t.pp = p; revert p; decide
  simp only [Point.starts, List.mem_cons, List.not_mem_nil, or_false] at ht
  exact {
    lowWakes := by rw [same.sck, same.sensor]; exact hv.lowWakes
    unknownUntilInit := fun hi _ => by
      rw [same.sensor]; exact hv.unknownUntilInit (same.init ▸ hi) (by simp [hp])
    initEndsDoubt := fun hi => by
      rw [same.sensor]; exact hv.initEndsDoubt (.inl (same.init ▸ hi.resolve_right notIn))
    readyFresh := by rw [same.sensor]; exact hv.readyFresh
    readCounted := by rw [same.sensor]; exact hv.readCounted
    sckLow := fun hk hi ha _ => by
      rw [same.sck]
      exact hv.sckLow (same.sensor ▸ hk) (same.init ▸ hi) (same.asleep ▸ ha) (by rw [hp]; rfl)
    high := fun _ => by unfold highAgrees; obtain ht | ht | ht | ht | ht | ht := ht <;> rw [ht] <;> trivial
    poweredUp := fun h => by obtain ht | ht | ht | ht | ht | ht := ht <;> cases ht.symm.trans h
    settled := fun hk => by
      have hzero : t.init = true → t.sensor.settle = 0 := by
        rw [same.init, same.sensor]; exact settle (same.sensor ▸ hk)
      unfold settleAgrees
      obtain ht | ht | ht | ht | ht | ht := ht <;> rw [ht] <;> exact hzero
    reads := fun _ _ => by obtain ht | ht | ht | ht | ht | ht := ht <;> rw [ht] <;> trivial }

/-- A word's write in an idle engine leads to IDLE or to where a command starts. -/
theorem exec_pp {i : Instr} {s t : State} (h : exec i s = .next t) (hb : s.busy = false) :
    t.pp ∈ Point.idle :: Point.starts := by
  obtain ⟨hbusy, -⟩ | ⟨-, _, -, rfl, -⟩ | ⟨-, -, _, -, rfl⟩ | ⟨-, -, _, -, rfl⟩ | ⟨-, -, -, -, rfl⟩ | ⟨-, -, -, -, rfl⟩
    | ⟨-, -, -, rfl⟩ | ⟨-, -, -, rfl⟩ := exec_cases i s t h
  · cases hb.symm.trans hbusy
  all_goals simp [Point.starts]

theorem hostAccess_pp {s t : State} (h : hostAccess s = .next t) (hb : s.busy = false) (hp : s.pp = .idle) :
    t.pp ∈ Point.idle :: Point.starts := by
  obtain ⟨w, ops, -, hx⟩ | ⟨_, _, rfl⟩ | ⟨_, _, rfl⟩ := hostAccess_cases s t h
  · exact exec_pp hx hb
  · simp [hp]
  · simp [hp]

theorem sensorInv_hostAccess {s t : State} (h : s.Inv) (hv : SensorInv s) (hx : hostAccess s = .next t) :
    SensorInv t := by
  have hf := hostAccess_frame hx
  cases hb : s.busy
  · have hp := h.pp_of_idle hb
    exact hv.of_idle hp (hostAccess_pp hx hb hp) hf
  · exact hv.undisturbed (undisturbed_hostAccess_of_busy hx hb) hf.now hf.sensor

/-- A running command whose event is not enabled is in a Delay. -/
theorem State.Inv.isDelay_of_disabled {s : State} (h : s.Inv) (he : s.engineEnabled = false) (hp : s.pp ≠ .idle) :
    s.pp.isDelay = true := by
  by_contra hd
  cases he.symm.trans (enabled_of_point s (h.busyIff.2 hp) hp (Bool.eq_false_of_not_eq_true hd))

/-- Then a tick takes one off its Delay. -/
theorem State.Inv.ticksToDue_timeStep {s : State} (h : s.Inv) (he : s.engineEnabled = false) (hd : s.pp.isDelay = true) :
    ticksToDue (timeStep s) + 1 = ticksToDue s := by
  have hp : s.pp ≠ .idle := by rintro hp; simp [hp, Point.isDelay] at hd
  exact Machine.ticksToDue_timeStep (now_ne_due (h.busyIff.2 hp) hd he)

/-- A tick: a high SCK is high for one more. -/
theorem highAgrees_timeStep {s : State} (h : s.Inv) (he : s.engineEnabled = false) (hh : highAgrees s) :
    highAgrees (timeStep s) := by
  have delay := h.isDelay_of_disabled he
  have tick := h.ticksToDue_timeStep he
  unfold highAgrees at hh ⊢
  cases hp : s.pp <;> simp only [hp, timeStep_pp] at hh delay tick ⊢
  case dHigh | tHigh =>
    obtain ⟨hs, hlow, hfor⟩ := hh
    have := tick rfl
    refine ⟨hs, ?_, ?_⟩
    · simp only [timeStep_sensor, Sensor.tick, hs, if_true, hlow, Bool.false_or, lowPowerAfter]
      exact decide_eq_false (by omega)
    · simp only [timeStep_sensor, Sensor.tick, hs, if_true]
      omega
  case dSample | dFall | tFall => cases delay nofun

/-- A settle delay has one tick less to go. -/
theorem settleAgrees_timeStep {s : State} (h : s.Inv) (he : s.engineEnabled = false) (hs : settleAgrees s) :
    settleAgrees (timeStep s) := by
  have hsettle : (timeStep s).sensor.settle = s.sensor.settle - 1 := (Sensor.tick_same s.sck s.sensor).2.2.2.2.2.2
  have tick := h.ticksToDue_timeStep he
  unfold settleAgrees at hs ⊢
  simp only [hsettle]
  cases hp : s.pp <;> simp only [hp, timeStep_pp, timeStep_init, timeStep_sck] at hs tick ⊢
  case iSettle | kSettle =>
    have := tick rfl
    exact ⟨hs.1, by omega⟩
  case iCommit | kCommit => exact ⟨hs.1, by omega⟩
  all_goals exact fun hi => by rw [hs hi]

theorem sensorInv_timeStep {s : State} (h : s.Inv) (he : s.engineEnabled = false) (hv : SensorInv s) :
    SensorInv (timeStep s) := by
  obtain ⟨offer, code, -, nextSel, pulses, view, settle⟩ := Sensor.tick_same s.sck s.sensor
  have known : (timeStep s).sensor.known = s.sensor.known := by simp only [timeStep_sensor, Sensor.known, view]
  exact {
    lowWakes := fun hs => by
      have hs : s.sck = 0 := hs
      simpa [Sensor.tick, hs] using hv.lowWakes hs
    unknownUntilInit := by rw [known]; exact hv.unknownUntilInit
    initEndsDoubt := by rw [timeStep_sensor, view]; exact hv.initEndsDoubt
    readyFresh := by rw [timeStep_sensor, offer, pulses]; exact hv.readyFresh
    readCounted := by rw [timeStep_sensor, offer, pulses]; exact hv.readCounted
    sckLow := by rw [known]; exact hv.sckLow
    high := by rw [known]; exact fun hk => highAgrees_timeStep h he (hv.high hk)
    poweredUp := fun hp => by
      obtain ⟨hs, hle⟩ := hv.poweredUp hp
      exact ⟨hs, by rw [timeStep_sensor, settle]; exact (Nat.sub_le _ _).trans hle⟩
    settled := by rw [known]; exact fun hk => settleAgrees_timeStep h he (hv.settled hk)
    reads := by
      rw [known]
      have := hv.reads
      unfold readAgrees readsReady accHoldsCode at this ⊢
      rw [timeStep_sensor, offer, pulses, code, nextSel]
      exact this }

/-- The sensor's own moves: only a conversion that becomes ready changes its record, and not in a READ's pulses. -/
theorem sensorInv_sensorMove {e : SensorEvent} {s : State} (hv : SensorInv s)
    (hc : ∀ code, e = .convert code → conversionConforms s) : SensorInv (sensorMove e s) := by
  cases e with
  | drive l => exact hv.undisturbed (undisturbed_sensorMove _ s) rfl rfl
  | release => exact hv.undisturbed (undisturbed_sensorMove _ s) rfl rfl
  | convert code =>
    exact {
      lowWakes := hv.lowWakes
      unknownUntilInit := hv.unknownUntilInit
      initEndsDoubt := hv.initEndsDoubt
      readyFresh := fun _ => rfl
      readCounted := nofun
      sckLow := hv.sckLow
      high := hv.high
      poweredUp := hv.poweredUp
      settled := hv.settled
      reads := fun hk _ => by
        have hp : s.pp.shifts = false := (hc code rfl hk).2
        cases hpp : s.pp <;> simp only [hpp, Point.shifts, Bool.true_eq_false] at hp <;>
          simp only [sensorMove, hpp] }

theorem sensorInv_resetBlock {s : State} (hv : SensorInv s) : SensorInv (resetBlock s) := by
  have known : ∀ {p : Prop}, (resetBlock s).sensor.known = true → p := fun hk => by simp at hk
  have sound : (resetBlock s).sensor.Sound (resetBlock s).sck := by
    unfold resetBlock
    cases s.busy
    · exact ⟨hv.lowWakes, hv.readyFresh, hv.readCounted⟩
    · exact .of_offer hv.lowWakes nofun nofun
  exact {
    lowWakes := sound.lowWakes
    unknownUntilInit := fun _ _ => resetBlock_known s
    initEndsDoubt := by simp
    readyFresh := sound.readyFresh
    readCounted := sound.readCounted
    sckLow := fun hk => known hk
    high := fun hk => known hk
    poweredUp := nofun
    settled := fun hk => known hk
    reads := fun hk => known hk }

/-- What the premise says of an engine event and of a conversion. -/
theorem conforming_engine {s : State} {e : Bool} (h : conforming s) (hm : (nextMove s).1 = .engine e) : doutConforms s := by
  obtain ⟨ts, d, hs⟩ := nextMove_state s
  rw [conforming, hm, hs] at h
  exact h

theorem conforming_convert {s : State} {code : Code} (h : conforming s) (hm : (nextMove s).1 = .sensor (.convert code)) :
    conversionConforms s := by
  obtain ⟨ts, d, hs⟩ := nextMove_state s
  rw [conforming, hm, hs] at h
  exact h

theorem SensorInv.taken {s : State} (h : SensorInv s) (ts : List Turn) (d : Nat) :
    SensorInv { s with turns := ts, draws := d } :=
  h.undisturbed ⟨by constructor <;> rfl, rfl, rfl, rfl, rfl, rfl, rfl, rfl, rfl⟩ rfl rfl

/-- Settles O56: every move keeps it, of the sensor's moves the conforming ones. -/
theorem stepKeepsSensorInv : Obligations.StepKeepsSensorInv := by
  intro s t h hv hc hs
  obtain ⟨hl, ts, d, ⟨-, hx⟩ | ⟨e, hm, he, rfl⟩ | ⟨e, hm, rfl⟩ | ⟨-, he, rfl⟩ | ⟨-, rfl⟩⟩ := step_cases s t hs
  · exact sensorInv_hostAccess (h.taken ts d) (hv.taken ts d) hx
  · have hd : doutConforms s := conforming_engine hc hm
    exact sensorInv_engineEvent (s := { s with turns := ts, draws := d }) (h.taken ts d) hl he (hv.taken ts d) hd
      (engineEvent_spec _ _)
  · have hd : ∀ code, e = .convert code → conversionConforms s := fun code he => conforming_convert hc (he ▸ hm)
    exact sensorInv_sensorMove (s := { s with turns := ts, draws := d }) (hv.taken ts d) hd
  · exact sensorInv_timeStep (h.taken ts d) he (hv.taken ts d)
  · exact sensorInv_resetBlock (hv.taken ts d)

end Sys2Proof.Machine

/-! PROOFS. The one-reading lag (43_gain_select.md R112). -/

namespace Sys2Proof.Machine

theorem ne_idle_of_shifts {p : Point} (h : p.shifts = true) : p ≠ .idle := by
  rintro rfl; cases h

/-- Only a ready sample leads to a READ's first pulse. -/
theorem EventTo.of_dRise {e : Bool} {s t : State} (hev : EventTo e s t) (hp : s.pp = .rwSample) (ht : t.pp = .dRise) :
    t = goTo .dRise { s with acc := 0, bit := 0, trail := 0 } := by
  cases hev with
  | readFound => rfl
  | idle hp' => cases hp'.symm.trans hp
  | delayEnds hp' => rw [hp] at hp'; cases hp'
  | poll q hp' | rise q hp' => obtain ⟨-, rfl⟩ | ⟨-, rfl⟩ := hp' <;> cases ht
  | _ => cases ht

/-- A READ that begins on a conversion that is ready reads it. -/
theorem readsReady_of_begin {e : Bool} {s t : State} (hv : SensorInv s) (ho : s.sensor.offer = .ready)
    (hp : s.pp = .rwSample) (hev : EventTo e s t) (ht : t.pp = .dRise) : readsReady t := by
  rw [hev.of_dRise hp ht]
  exact ⟨.inl ho, hv.readyFresh ho⟩

/-- What is read through the shifts reads nothing but the position, the counters and the sensor's own counts. -/
theorem readsReady_congr {s t : State} (hp : t.pp = s.pp) (hb : t.bit = s.bit) (ht : t.trail = s.trail)
    (ho : t.sensor.offer = s.sensor.offer) (hn : t.sensor.pulses = s.sensor.pulses) : readsReady t ↔ readsReady s := by
  unfold readsReady pulsesDone
  rw [hp, hb, ht, ho, hn]

/-- A move that is no engine event and no conversion leaves the sensor's counts and selectors as they were. -/
structure SensorKept (s t : State) : Prop where
  offer : t.sensor.offer = s.sensor.offer
  pulses : t.sensor.pulses = s.sensor.pulses
  codeSel : t.sensor.codeSel = s.sensor.codeSel
  nextSel : t.sensor.nextSel = s.sensor.nextSel
  known : t.sensor.known = s.sensor.known

theorem SensorKept.of_eq {s t : State} (h : t.sensor = s.sensor) : SensorKept s t := by
  constructor <;> rw [h]

theorem sensorKept_timeStep (s : State) : SensorKept s (timeStep s) := by
  obtain ⟨offer, -, codeSel, nextSel, pulses, view, -⟩ := Sensor.tick_same s.sck s.sensor
  exact ⟨offer, pulses, codeSel, nextSel, by simp only [timeStep_sensor, Sensor.known, view]⟩

/-- Taking a turn off the list disturbs nothing either. -/
theorem Undisturbed.of_taken {s t : State} {ts : List Turn} {d : Nat}
    (h : Undisturbed { s with turns := ts, draws := d } t) : Undisturbed s t := by
  obtain ⟨⟨⟩⟩ := h
  constructor <;> first | assumption | (constructor <;> assumption)

theorem SensorKept.of_taken {s t : State} {ts : List Turn} {d : Nat}
    (h : SensorKept { s with turns := ts, draws := d } t) : SensorKept s t :=
  ⟨h.offer, h.pulses, h.codeSel, h.nextSel, h.known⟩

/-- The moves of a step in the shifts of a READ that go on with it: an engine event, or one that changes neither the
engine nor what the sensor has counted. -/
theorem step_shifts_cases {s t : State} (hc : conforming s) (hp : s.pp.shifts = true)
    (h : step s = .next t) (hb : s.busy = true) (hr : (nextMove s).1 ≠ .reset) (hk : t.sensor.known = true) :
    (∃ e ts d, s.engineEnabled = true ∧ EventTo e { s with turns := ts, draws := d } t)
      ∨ (Undisturbed s t ∧ SensorKept s t) := by
  obtain ⟨-, ts, d, ⟨-, hx⟩ | ⟨e, -, he, rfl⟩ | ⟨e, hm, rfl⟩ | ⟨-, -, rfl⟩ | ⟨hm, -⟩⟩ := step_cases s t h
  · exact .inr ⟨(undisturbed_hostAccess_of_busy hx hb).of_taken, .of_eq (hostAccess_frame hx).sensor⟩
  · exact .inl ⟨e, ts, d, he, engineEvent_spec _ _⟩
  · refine .inr ⟨(undisturbed_sensorMove e _).of_taken, ?_⟩
    cases e with
    | drive l => exact .of_eq rfl
    | release => exact .of_eq rfl
    | convert code => cases hp.symm.trans (conforming_convert hc hm hk).2
  · exact .inr ⟨(undisturbed_timeStep _).of_taken, (sensorKept_timeStep _).of_taken⟩
  · exact absurd hm hr

/-- Through the shifts a step does not change whether a ready conversion is read, nor which selector it was made
with. -/
theorem step_readsReady_iff {s t : State} (h : s.Inv) (hv : SensorInv s) (hc : conforming s) (hp : s.pp.shifts = true)
    (hs : step s = .next t) (hr : (nextMove s).1 ≠ .reset) (hpt : t.pp.shifts = true) (hk : t.sensor.known = true) :
    (readsReady t ↔ readsReady s) ∧ t.sensor.codeSel = s.sensor.codeSel := by
  have hb : s.busy = true := h.busyIff.2 (ne_idle_of_shifts hp)
  obtain ⟨e, ts, d, -, hev⟩ | ⟨same, kept⟩ := step_shifts_cases hc hp hs hb hr hk
  · obtain ⟨hiff, -, hsel⟩ := hev.readsReady_iff (h.taken ts d) (hv.taken ts d) hk hp hpt
    exact ⟨hiff, hsel⟩
  · exact ⟨readsReady_congr same.pp same.bit same.trail kept.offer kept.pulses, kept.codeSel⟩

/-- A reset ends a READ. -/
theorem not_reset_of_shifts {s t : State} (hs : step s = .next t) (hpt : t.pp.shifts = true) :
    (nextMove s).1 ≠ .reset := by
  intro hm
  have := step_eq_applyMove hs
  rw [hm] at this
  cases this
  cases hpt

/-- A READ of a ready conversion that commits: it returns the code, and what it programs is the active selector. -/
theorem commit_of_ready {e : Bool} {s : State} (hv : SensorInv s) (hk : s.sensor.known = true) (hr : readsReady s)
    (hp : s.pp = .rCommit) :
    (engineEvent e s).result = sext32 s.sensor.code ∧ (engineEvent e s).sensor.codeSel = s.sensor.codeSel
      ∧ lagInv (selectorOf s.sel) (engineEvent e s) := by
  obtain ⟨hacc, hnext⟩ : s.acc = s.sensor.code ∧ s.sensor.nextSel = selectorOf s.sel :=
    readAgrees_at hp (hv.reads hk) ((readsReady_at hp).1 hr)
  rw [(EventTo.rCommit hp).eq]
  refine ⟨congrArg sext32 hacc, rfl, fun _ => ⟨hnext, fun ho => ?_⟩⟩
  have hpulses : s.sensor.pulses = 24 + s.trail := ((readsReady_at hp).1 hr).2
  have := hv.readyFresh ho
  omega

/-! ## The selector that the latest READ programmed -/

/-- While no READ shifts, the clause is on the sensor alone. -/
theorem lagInv_of_kept {c : Option Selector} {s t : State} (hlag : lagInv c s) (hp : s.pp.shifts = false)
    (hpt : t.pp.shifts = false) (kept : SensorKept s t) : lagInv c t := by
  intro hk
  have := hlag (kept.known ▸ hk)
  rw [hp] at this
  rw [hpt, kept.offer, kept.codeSel, kept.nextSel]
  exact this

/-- An engine event of a ready wait or a READ outside its shifts either keeps the sensor and stays outside, or begins
to shift, or leaves the sensor's state unknown. -/
theorem lagInv_engineEvent_outside {e : Bool} {c : Option Selector} {s t : State} (hv : SensorInv s)
    (hlag : lagInv c s) (hop : s.pp.op ∈ [Op.none, .waitReady, .read]) (hp : s.pp.shifts = false) (hev : EventTo e s t) :
    lagInv c t := by
  cases hev with
  | idle => exact hlag
  | found | timedOut => exact lagInv_of_kept hlag hp rfl (.of_eq rfl)
  | poll q hp' => obtain ⟨-, rfl⟩ | ⟨-, rfl⟩ := hp' <;> exact lagInv_of_kept hlag hp rfl (.of_eq rfl)
  | readFound hp' =>
    rintro hk ⟨hready, hpulses⟩
    have := hlag hk
    rw [hp] at this
    exact this.2 (hready.resolve_right fun ho => hv.readCounted ho hpulses)
  | getFails | setFails => nofun
  | sample hp' | dFall hp' | tFall hp' | rCommit hp' => rw [hp'] at hp; cases hp
  | rise q hp' => obtain ⟨hp', -⟩ | ⟨hp', -⟩ := hp' <;> rw [hp'] at hp <;> cases hp
  | cfgFails hp' => obtain hp' | hp' := hp' <;> simp [hp', Point.op] at hop
  | cfgSck hp' | cfgDout hp' | iCommit hp' | sSet hp' | sCommit hp' | kSet hp' | kCommit hp' =>
    simp [hp', Point.op] at hop
  | delayEnds hp' =>
    refine lagInv_of_kept hlag hp ?_ (.of_eq rfl)
    unfold afterDelay
    cases hpp : s.pp <;> simp only [hpp, Point.isDelay, Point.shifts, Bool.false_eq_true, Bool.true_eq_false] at hp' hp <;>
      rfl

/-- Before its commit a READ leaves its shifts only with an IO_ERROR, after which the sensor's state is unknown. -/
theorem EventTo.shifts_of_known {e : Bool} {s t : State} (hev : EventTo e s t) (hp : s.pp.shifts = true)
    (hc : s.pp ≠ .rCommit) (hk : t.sensor.known = true) : t.pp.shifts = true ∧ s.sensor.known = true := by
  cases hev with
  | idle hp' => exact absurd hp' (ne_idle_of_shifts hp)
  | getFails | setFails => cases hk
  | sample => exact ⟨rfl, hk⟩
  | rise q hp' => obtain ⟨-, rfl⟩ | ⟨-, rfl⟩ := hp' <;> exact ⟨rfl, (driveSck_known 1 s).symm.trans hk⟩
  | dFall | tFall => exact ⟨rfl, (driveSck_known 0 s).symm.trans hk⟩
  | delayEnds hp' =>
    refine ⟨?_, hk⟩
    unfold afterDelay
    cases hpp : s.pp <;> simp only [hpp, Point.isDelay, Point.shifts, Bool.false_eq_true] at hp' hp
    case dHigh | tHigh => rfl
    case dLow | tLow => simp only []; split <;> rfl
  | rCommit hp' => exact absurd hp' hc
  | cfgFails hp' | timedOut hp' => obtain hp' | hp' := hp' <;> rw [hp'] at hp <;> cases hp
  | poll q hp' => obtain ⟨hp', -⟩ | ⟨hp', -⟩ := hp' <;> rw [hp'] at hp <;> cases hp
  | cfgSck hp' | cfgDout hp' | iCommit hp' | found hp' | readFound hp' | sSet hp' | sCommit hp' | kSet hp' | kCommit hp' =>
    rw [hp'] at hp; cases hp

/-- In the shifts of a READ. -/
theorem lagInv_step_inside {c : Option Selector} {s t : State} (h : s.Inv) (hv : SensorInv s) (hc : conforming s)
    (hlag : lagInv c s) (hp : s.pp.shifts = true) (hne : s.pp ≠ .rCommit) (hm : (nextMove s).1 ≠ .reset)
    (hs : step s = .next t) : lagInv c t := by
  intro hk
  have hb : s.busy = true := h.busyIff.2 (ne_idle_of_shifts hp)
  obtain ⟨hpt, known⟩ : t.pp.shifts = true ∧ s.sensor.known = true := by
    obtain ⟨e, ts, d, -, hev⟩ | ⟨same, kept⟩ := step_shifts_cases hc hp hs hb hm hk
    · exact hev.shifts_of_known hp hne hk
    · exact ⟨same.pp ▸ hp, kept.known ▸ hk⟩
  obtain ⟨hiff, hsel⟩ := step_readsReady_iff h hv hc hp hs hm hpt hk
  have hread := hlag known
  rw [if_pos hp] at hread
  rw [if_pos hpt, hiff, hsel]
  exact hread

/-- Where a command starts no READ shifts. -/
theorem shifts_of_starts {p : Point} (h : p ∈ Point.idle :: Point.starts) : p.shifts = false := by
  revert p; decide

/-- Outside them, in a ready wait or while no command runs. -/
theorem lagInv_step_outside {c : Option Selector} {s t : State} (h : s.Inv) (hv : SensorInv s)
    (hlag : lagInv c s) (hop : s.op ∈ [Op.none, .waitReady, .read]) (hp : s.pp.shifts = false)
    (hm : (nextMove s).1 ≠ .reset) (hs : step s = .next t) : lagInv c t := by
  obtain ⟨-, ts, d, ⟨-, hx⟩ | ⟨e, -, -, rfl⟩ | ⟨e, hm, rfl⟩ | ⟨-, -, rfl⟩ | ⟨hr, -⟩⟩ := step_cases s t hs
  · refine lagInv_of_kept hlag hp ?_ (.of_eq (hostAccess_frame hx).sensor)
    cases hb : s.busy
    · exact shifts_of_starts (hostAccess_pp hx hb (h.pp_of_idle hb))
    · rw [(undisturbed_hostAccess_of_busy hx hb).pp]; exact hp
  · exact lagInv_engineEvent_outside (s := { s with turns := ts, draws := d }) (hv.taken ts d) hlag (h.opOfPoint ▸ hop) hp
      (engineEvent_spec _ _)
  · cases e with
    | drive l => exact lagInv_of_kept hlag hp hp (.of_eq rfl)
    | release => exact lagInv_of_kept hlag hp hp (.of_eq rfl)
    | convert code =>
      intro hk
      have hnext := hlag hk
      rw [hp] at hnext
      rw [if_neg (by exact hp ▸ Bool.false_ne_true)]
      exact ⟨hnext.1, fun _ => hnext.1⟩
  · exact lagInv_of_kept hlag hp hp (sensorKept_timeStep _).of_taken
  · exact absurd hr hm

/-- Settles O57: a READ of a ready conversion counts with the sensor through its shifts, returns its code and programs
s.sel at its commit, and no move before the next commit changes what was programmed. -/
theorem oneReadingLag : Obligations.OneReadingLag := by
  refine ⟨fun s t h hv hk ho hp ⟨e, he⟩ hs hpt => ?_, fun s t h hv hc hp hr hs hpt hk => ?_,
    fun s t h hv hk hr hp ⟨e, he⟩ hs => ?_, fun s t c h hv hc hlag hop hne hm hs => ?_, fun s c hlag hk hr hp => ?_⟩
  · obtain ⟨ts, d, rfl⟩ := step_of_engine hs he
    exact readsReady_of_begin (hv.taken ts d) ho hp (engineEvent_spec _ _) hpt
  · exact (step_readsReady_iff h hv hc hp hs (not_reset_of_shifts hs hpt) hpt hk).1.2 hr
  · obtain ⟨ts, d, rfl⟩ := step_of_engine hs he
    exact commit_of_ready (s := { s with turns := ts, draws := d }) (hv.taken ts d) hk hr hp
  · cases hp : s.pp.shifts
    · exact lagInv_step_outside h hv hlag hop hp hm hs
    · exact lagInv_step_inside h hv hc hlag hp hne hm hs
  · have := hlag hk
    rw [hp] at this
    exact this hr

end Sys2Proof.Machine

/-! PROOFS. The data path (41_acquire.md R93), and what a scheduled run is made of: one engine event, one sensor move,
or an event that enters a Delay with the whole Delay (20_memory.md R58, R59). -/

namespace Sys2Proof.Machine

/-! ## The data path -/

/-- The number that levels form, the first the most significant. -/
def bitSum : List Level → Nat
  | [] => 0
  | b :: bs => b.toNat * 2 ^ bs.length + bitSum bs

theorem bitSum_lt (b : List Level) : bitSum b < 2 ^ b.length := by
  induction b with
  | nil => simp [bitSum]
  | cons x xs ih =>
    have hx : x.toNat ≤ 1 := Nat.le_of_lt_succ x.isLt
    have := Nat.mul_le_mul_right (2 ^ xs.length) hx
    rw [bitSum, List.length_cons, pow_succ]
    omega

/-- The number is the sum of its bits, each at its place. -/
theorem bitSum_eq_sum (b : List Level) :
    bitSum b = ((List.range b.length).map fun k => (b.getD k 0).toNat * 2 ^ (b.length - 1 - k)).sum := by
  induction b with
  | nil => rfl
  | cons x xs ih =>
    rw [bitSum, ih, List.length_cons, List.range_succ_eq_map, List.map_cons, List.sum_cons, List.map_map]
    congr 1
    refine congrArg List.sum (List.map_congr_left fun k _ => ?_)
    rw [Function.comp_apply, List.getD_cons_succ]
    congr 2
    omega

/-- Shifting levels in appends them to the accumulator, of which 24 bits are kept. -/
theorem foldl_shiftIn_toNat (b : List Level) (acc : Code) :
    (b.foldl shiftIn acc).toNat = (acc.toNat * 2 ^ b.length + bitSum b) % 2 ^ 24 := by
  induction b generalizing acc with
  | nil => simp [bitSum, Nat.mod_eq_of_lt acc.isLt]
  | cons x xs ih =>
    rw [List.foldl_cons, ih, shiftIn_toNat, bitSum, List.length_cons, pow_succ, Nat.add_mod, Nat.mod_mul_mod,
      ← Nat.add_mod]
    congr 1
    ring

/-- Settles O42: the accumulator begins at 0, and 24 levels fill it. -/
theorem twentyFourShiftsFormTheCode : Obligations.TwentyFourShiftsFormTheCode := by
  intro b hb
  have hlt := bitSum_lt b
  rw [hb] at hlt
  have hsum := bitSum_eq_sum b
  rw [hb] at hsum
  rw [foldl_shiftIn_toNat, show (0 : Code).toNat = 0 from rfl, Nat.zero_mul, Nat.zero_add, Nat.mod_eq_of_lt hlt, hsum]

/-! ## Parts of a scheduled run -/

/-- The state with other moves to come. -/
def State.withTurns (s : State) (ts : List Turn) : State := { s with turns := ts }

@[simp] theorem State.withTurns_self (s : State) : s.withTurns s.turns = s := rfl

/-- The turns A lead from s to t, whatever turns follow, with the line operations L. -/
def Plays (A : List Turn) (s : State) (L : List LineOp) (t : State) : Prop :=
  ∀ ts, runSteps A.length (s.withTurns (A ++ ts)) = .next (t.withTurns ts)
    ∧ lineTrace A.length (s.withTurns (A ++ ts)) = L

theorem Plays.nil (s : State) : Plays [] s [] s := fun _ => ⟨rfl, rfl⟩

/-- One turn, whose move is m. -/
theorem Plays.of_move {x : Turn} {m : Move} {s t : State} (hl : s.cfg.legal = true)
    (hm : ∀ ts, nextMove (s.withTurns (x :: ts)) = (m, s.withTurns ts))
    (ha : ∀ ts, applyMove m (s.withTurns ts) = .next (t.withTurns ts)) :
    Plays [x] s (match m with | .engine _ => s.pp.lineOp | _ => []) t := by
  intro ts
  have hs : step (s.withTurns (x :: ts)) = .next (t.withTurns ts) := by
    rw [← ha ts]
    exact (if_pos hl).trans (by rw [hm])
  refine ⟨runSteps_succ 0 _ _ hs, ?_⟩
  simp only [List.length_singleton, List.singleton_append, lineTrace, traceOf, hs, List.append_nil, stepLineOps, hm]
  cases m <;> rfl

/-- The line operations of a run are those of its parts. -/
theorem lineTrace_add {m : Nat} {s u : State} (n : Nat) (h : runSteps m s = .next u) :
    lineTrace (m + n) s = lineTrace m s ++ lineTrace n u := by
  induction m generalizing s with
  | zero => cases h; simp [lineTrace, traceOf]
  | succ m ih =>
    rw [show m + 1 + n = m + n + 1 by omega]
    cases hs : step s with
    | next v =>
      rw [runSteps_succ _ _ _ hs] at h
      simpa [lineTrace, traceOf, hs] using ih h
    | fault r => cases r
    | refused r => rw [(runSteps_step m s).2 r hs] at h; cases h

theorem Plays.trans {A B : List Turn} {s u t : State} {L L' : List LineOp} (h : Plays A s L u) (h' : Plays B u L' t) :
    Plays (A ++ B) s (L ++ L') t := by
  intro ts
  obtain ⟨hr, hL⟩ := h (B ++ ts)
  obtain ⟨hr', hL'⟩ := h' ts
  rw [List.length_append, List.append_assoc]
  exact ⟨(runSteps_add _ _ _ _ hr).trans hr', by rw [lineTrace_add _ hr, hL, hL']⟩

/-- What the turns after the write of a command's word make of it. -/
theorem Plays.runCommand {A ts : List Turn} {i : Instr} {s u t : State} {L : List LineOp} (h : Plays A u L t)
    (hx : exec i s = .next u) (ht : u.turns = A ++ ts) :
    (∀ v, exec i s = .next v → lineTrace A.length v = L)
      ∧ runCommand i A.length s = .next (t.withTurns ts) := by
  obtain ⟨hr, hL⟩ := h ts
  rw [← ht, State.withTurns_self] at hr hL
  refine ⟨fun v hv => ?_, by rw [Machine.runCommand, hx]; exact hr⟩
  cases hx.symm.trans hv
  exact hL

/-- An engine event does not read the moves to come. -/
theorem EventTo.withTurns {e : Bool} {s t : State} (h : EventTo e s t) (ts : List Turn) :
    EventTo e (s.withTurns ts) (t.withTurns ts) := by
  cases h with
  | idle hp => exact .idle hp
  | cfgFails hp hf => exact .cfgFails hp hf
  | cfgSck hp hf => exact .cfgSck hp hf
  | cfgDout hp hf => exact .cfgDout hp hf
  | iCommit hp => exact .iCommit hp
  | getFails hp hf => exact .getFails hp hf
  | setFails hp hf => exact .setFails hp hf
  | found hp hf hd => exact .found hp hf hd
  | readFound hp hf hd => exact .readFound hp hf hd
  | timedOut hp hf hd ht => exact .timedOut hp hf hd ht
  | poll q hp hf hd ht => exact .poll q hp hf hd ht
  | rise q hp hf => exact .rise q hp hf
  | sample hp hf => exact .sample hp hf
  | dFall hp hf => exact .dFall hp hf
  | tFall hp hf => exact .tFall hp hf
  | rCommit hp => exact .rCommit hp
  | sSet hp hf => exact .sSet hp hf
  | sCommit hp => exact .sCommit hp
  | kSet hp hf => exact .kSet hp hf
  | kCommit hp => exact .kCommit hp
  | delayEnds hp => exact .delayEnds hp

/-- A block turn with an engine event enabled. -/
theorem plays_enabled {e : Bool} {s t : State} (hl : s.cfg.legal = true) (he : s.engineEnabled = true)
    (hev : EventTo e s t) : Plays [.block e] s s.pp.lineOp t :=
  .of_move (m := .engine e) hl (fun ts => congrArg (·, s.withTurns ts) (if_pos he))
    fun ts => congrArg _ (hev.withTurns ts).eq

/-- A block turn at a point that is no Delay. -/
theorem plays_event {e : Bool} {s t : State} (hl : s.cfg.legal = true) (hb : s.busy = true) (hp : s.pp ≠ .idle)
    (hd : s.pp.isDelay = false) (hev : EventTo e s t) : Plays [.block e] s s.pp.lineOp t :=
  plays_enabled hl (enabled_of_point s hb hp hd) hev

theorem Point.lineOp_of_isDelay {p : Point} (h : p.isDelay = true) : p.lineOp = [] := by
  cases p <;> simp_all [Point.isDelay, Point.lineOp]

/-- A block turn at the end of a Delay. -/
theorem plays_delayEnds {s : State} (hl : s.cfg.legal = true) (hb : s.busy = true) (hd : s.pp.isDelay = true)
    (hdue : s.now = s.due) : Plays [.block false] s [] (goTo (afterDelay s) s) := by
  have hp : s.pp ≠ .idle := fun h => by rw [h] at hd; cases hd
  have h := plays_enabled hl (enabled_of_due s hb hp hdue) (.delayEnds hd : EventTo false s _)
  rwa [Point.lineOp_of_isDelay hd] at h

/-- A turn of the sensor. -/
theorem plays_sensor {s : State} (e : SensorEvent) (hl : s.cfg.legal = true) :
    Plays [.sensor e] s [] (sensorMove e s) :=
  .of_move (m := .sensor e) hl (fun _ => rfl) fun _ => by cases e <;> rfl

theorem quiet_add (m n : Nat) : quiet (m + n) = quiet m ++ quiet n := (List.replicate_append_replicate).symm

/-- The ticks of a Delay. -/
theorem plays_ticks {n : Nat} {s : State} (hl : s.cfg.legal = true) (hb : s.busy = true) (hd : s.pp.isDelay = true)
    (hdue : s.due = s.now + ticks n) (hn : n < 2 ^ 64) : Plays (quiet n) s [] (waited n s) := by
  induction n generalizing s with
  | zero => exact .nil s
  | succ n ih =>
    have he : ¬s.engineEnabled = true := by simp [disabled_before_due s n hd hdue hn]
    have tick : Plays [.block false] s [] (timeStep s) :=
      .of_move (m := .tick) hl (fun ts => congrArg (·, s.withTurns ts) (if_neg he)) fun _ => rfl
    exact tick.trans (ih (s := timeStep s) hl hb hd (due_after_tick s n hdue) (by omega))

/-- The Delay at q, of d ticks, from its entry to the point that its end leads to. -/
def held (q : Point) (d : Nat) (u : State) : State :=
  goTo (afterDelay (waited d (holdAt q d u))) (waited d (holdAt q d u))

/-- An event that enters a Delay, and the Delay. -/
theorem plays_hold {s u : State} {q : Point} {d : Nat} (hl : s.cfg.legal = true) (hb : s.busy = true) (hp : s.pp ≠ .idle)
    (hd : s.pp.isDelay = false) (hq : q.isDelay = true) (hlt : d < 2 ^ 64) (hcfg : u.cfg = s.cfg) (hbusy : u.busy = s.busy)
    (hev : EventTo false s (holdAt q d u)) : Plays (quiet (d + 2)) s s.pp.lineOp (held q d u) := by
  have hlu : u.cfg.legal = true := hcfg ▸ hl
  have hbu : u.busy = true := hbusy.trans hb
  have waits := plays_ticks (s := holdAt q d u) hlu hbu hq rfl hlt
  have ends := plays_delayEnds (s := waited d (holdAt q d u)) (by simpa using hlu) (by simpa using hbu)
    (by simpa using hq) (by simp)
  have h := (plays_event hl hb hp hd hev).trans (waits.trans ends)
  rwa [List.append_nil, List.append_nil, show [Turn.block false] = quiet 1 from rfl, ← quiet_add, ← quiet_add,
    Nat.add_comm] at h

end Sys2Proof.Machine

/-! PROOFS. INIT, SLEEP and WAKE run to completion (40_init.md, 42_power.md). -/

namespace Sys2Proof.Machine

/-! ## A whole Delay -/

@[simp] theorem held_pp (q : Point) (d : Nat) (u : State) : (held q d u).pp = afterDelay { u with pp := q } := by
  simp [held, afterDelay]

@[simp] theorem held_cfg (q : Point) (d : Nat) (u : State) : (held q d u).cfg = u.cfg := by simp [held]

@[simp] theorem held_busy (q : Point) (d : Nat) (u : State) : (held q d u).busy = u.busy := by simp [held]

@[simp] theorem held_now (q : Point) (d : Nat) (u : State) : (held q d u).now = u.now + ticks d := by simp [held]

theorem held_sensor (q : Point) (d : Nat) (u : State) :
    (held q d u).sensor = (Sensor.tick u.sck)^[d] u.sensor := by
  simp [held, waited_sensor]

/-- With SCK low only the settle delay runs. -/
theorem Sensor.tick_low_iterate (n : Nat) (x : Sensor) :
    (Sensor.tick 0)^[n] x = { x with settle := x.settle - n } := by
  induction n generalizing x with
  | zero => rfl
  | succ n ih =>
    rw [Function.iterate_succ_apply, ih]
    simp [Sensor.tick, Nat.sub_sub, Nat.add_comm]

theorem Sensor.highFor_tick_high_iterate (n : Nat) (x : Sensor) :
    ((Sensor.tick 1)^[n] x).highFor = x.highFor + n := by
  induction n generalizing x with
  | zero => rfl
  | succ n ih =>
    rw [Function.iterate_succ_apply, ih]
    simp [Sensor.tick, Nat.add_comm, Nat.add_left_comm]

/-- SCK high for more than 60 ticks puts the sensor into low-power mode (20_memory.md R65). -/
theorem Sensor.lowPower_of_high {n : Nat} (x : Sensor) (hn : lowPowerAfter < n) :
    ((Sensor.tick 1)^[n] x).lowPower = true := by
  obtain ⟨m, rfl⟩ : ∃ m, n = m + 1 := ⟨n - 1, by omega⟩
  have hhigh : lowPowerAfter < ((Sensor.tick 1)^[m] x).highFor + 1 := by
    rw [Sensor.highFor_tick_high_iterate]
    omega
  rw [Function.iterate_succ_apply']
  exact Bool.or_eq_true_iff.2 (.inr (decide_eq_true hhigh))

/-- At the end of a settle delay the sensor is settled, and else as it was. -/
theorem held_settle {q : Point} {d : Nat} {u : State} (hs : u.sck = 0) (hd : u.sensor.settle ≤ d) :
    (held q d u).sensor = { u.sensor with settle := 0 } := by
  rw [held_sensor, hs, Sensor.tick_low_iterate, Nat.sub_eq_zero_of_le hd]

/-- A commit makes no line operation. -/
theorem Point.of_commits {p : Point} (h : p ∈ Point.commits) : p ≠ .idle ∧ p.isDelay = false ∧ p.lineOp = [] := by
  revert p; decide

/-- An event that enters a Delay, the Delay, and the commit that it leads to. -/
theorem plays_hold_commit {s u t : State} {q : Point} {d : Nat} (hl : s.cfg.legal = true) (hb : s.busy = true)
    (hp : s.pp ≠ .idle) (hd : s.pp.isDelay = false) (hq : q.isDelay = true) (hlt : d < 2 ^ 64) (hcfg : u.cfg = s.cfg)
    (hbusy : u.busy = s.busy) (hev : EventTo false s (holdAt q d u)) (hc : (held q d u).pp ∈ Point.commits)
    (commit : EventTo false (held q d u) t) : Plays (quiet (d + 3)) s s.pp.lineOp t := by
  obtain ⟨hidle, hdelay, hnone⟩ := Point.of_commits hc
  have commits := plays_event (by simpa [hcfg] using hl) (by simpa [hbusy] using hb) hidle hdelay commit
  have h := (plays_hold hl hb hp hd hq hlt hcfg hbusy hev).trans commits
  rwa [hnone, List.append_nil, show [Turn.block false] = quiet 1 from rfl, ← quiet_add] at h

/-! ## INIT -/

/-- The state of an INIT just accepted. -/
def initStart (sel : Sel) (s : State) : State := startAt .init .iCfgSck { acceptUpdate s with opnd := sel }

/-- An idle, uninitialised engine starts an INIT. -/
theorem exec_init_starts {s : State} (sel : Sel) (hb : s.busy = false) (hi : s.init = false) :
    exec (.init sel) s = .next (initStart sel s) := by
  rw [exec_init_eq_cmdWrite, cmdWrite_idle hb]
  exact congrArg _ (if_neg (by simp [hi]))

/-- After I_CFG_SCK. -/
def sckConfigured (s : State) : State := goTo .iCfgDout { powerUpSensor s.sensor (driveSck 0 s) with sckMode := .output }

/-- After I_CFG_DOUT, but for the position. -/
def linesConfigured (s : State) : State :=
  { sckConfigured s with doutMode := .inputPullup, sensor := (sckConfigured s).sensor.configured }

/-- An initialised engine's state at INIT's commit. -/
def initialised (s : State) : State := { s with sel := s.opnd, init := true, asleep := false }

/-- An INIT whose pin operations return ok (40_init.md R85). -/
theorem plays_init {u : State} (hl : u.cfg.legal = true) (hb : u.busy = true) (hp : u.pp = .iCfgSck) :
    Plays (quiet (settleTicks u.cfg + 4)) u [.cfgSck, .cfgDout]
      (finish (initialised (held .iSettle (settleTicks u.cfg) (linesConfigured u)))) := by
  have cfgSck : Plays (quiet 1) u u.pp.lineOp (sckConfigured u) :=
    plays_event hl hb (by simp [hp]) (by rw [hp]; rfl) (.cfgSck hp rfl)
  have settles := plays_hold_commit (s := sckConfigured u) (q := .iSettle) (u := linesConfigured u) hl hb nofun rfl rfl
    (settleTicks_lt hl) rfl rfl (.cfgDout rfl rfl) (by simp [afterDelay, Point.commits])
    (.iCommit (by simp [afterDelay]))
  rw [hp] at cfgSck
  exact cfgSck.trans settles

/-- The sensor at INIT's commit: if its state does not wait for the recovery of R144, it is known
(70_reset_and_hazards.md R136). -/
theorem sensor_initialised {s : State} (hlow : s.sck = 0 → s.sensor.lowPower = false)
    (hv : s.sensor.view ≠ .untilRecovery) :
    let x := (held .iSettle (settleTicks s.cfg) (linesConfigured s)).sensor
    x.known = true ∧ x.lowPower = false ∧ x.settle = 0 ∧ x.nextSel = s.cfg.selAfterPowerup := by
  have known : (linesConfigured s).sensor.known = true := by
    change (Sensor.configured (driveSck 0 s).sensor).known = true
    cases hview : s.sensor.view <;> simp_all [Sensor.configured, Sensor.known, View.afterInit]
  have low : (linesConfigured s).sensor.lowPower = false := by
    change (driveSck 0 s).sensor.lowPower = false
    rw [driveSck_low_sensor]
    split
    · exact Sensor.fall_lowPower _ _
    · next hs => exact hlow ((level_cases s.sck).resolve_right hs)
  have settled : (held .iSettle (settleTicks s.cfg) (linesConfigured s)).sensor
      = { (linesConfigured s).sensor with settle := 0 } := held_settle rfl (le_refl _)
  rw [settled]
  exact ⟨known, low, rfl, rfl⟩

/-- Settles O43: INIT's two configurations, its Delay and its commit. -/
theorem initRunsToCompletion : Obligations.InitRunsToCompletion := by
  intro s sel ts hl hb hi ht
  obtain ⟨hL, hr⟩ := (plays_init (u := initStart sel s) hl rfl rfl).runCommand (exec_init_starts sel hb hi) ht
  rw [quiet, List.length_replicate] at hL hr
  have sensor := fun (hv : SensorInv s) => sensor_initialised (s := initStart sel s) hv.lowWakes
  have drive : (held .iSettle (settleTicks s.cfg) (linesConfigured (initStart sel s))).doutDrive = s.doutDrive := by
    simp [held, linesConfigured, sckConfigured, initStart]
  have mode : (held .iSettle (settleTicks s.cfg) (linesConfigured (initStart sel s))).doutMode = .inputPullup := by
    simp [held, linesConfigured]
  refine ⟨hL, _, hr, rfl, ?_, rfl, rfl, rfl, ?_, ?_, ?_, ?_, rfl, rfl, ?_, ?_, ?_, mode, ?dout, rfl, sensor⟩
  case dout =>
    cases hd : s.doutDrive with
    | some l => exact dout_driven _ l (drive.trans hd)
    | none => exact dout_pulledUp _ (drive.trans hd) mode
  all_goals simp [State.withTurns, initialised, held, linesConfigured, sckConfigured, initStart]

/-- Settles O44: the event at I_CFG_SCK, and at I_CFG_DOUT after it, by `cfgFails`. -/
theorem failedInit : Obligations.FailedInit := by
  intro s sel ts hl hf hb hi
  have start := exec_init_starts sel hb hi
  have sckFails : Plays [.block true] (initStart sel s) [.cfgSck] (raiseStatus .configError (initStart sel s)) :=
    plays_event hl rfl nofun rfl (.cfgFails (.inl rfl) hf)
  have sckOk : Plays [.block false] (initStart sel s) [.cfgSck] (sckConfigured (initStart sel s)) :=
    plays_event hl rfl nofun rfl (.cfgSck rfl rfl)
  have doutFails : Plays [.block true] (sckConfigured (initStart sel s)) [.cfgDout]
      (raiseStatus .configError (sckConfigured (initStart sel s))) :=
    plays_event hl rfl nofun rfl (.cfgFails (.inr rfl) hf)
  constructor <;> intro ht
  · refine ⟨_, (sckFails.runCommand start ht).2, ?_⟩
    simp [State.withTurns, initStart, hi]
  · refine ⟨_, ((sckOk.trans doutFails).runCommand start ht).2, ?_⟩
    simp [State.withTurns, sckConfigured, initStart, hi]

/-! ## SLEEP -/

/-- Settles O45: S_SET's pulse edge, the hold and the commit. -/
theorem sleepRunsToCompletion : Obligations.SleepRunsToCompletion := by
  intro s ts hl hb hi ht
  obtain ⟨-, -, ⟨hsleep, hmax⟩, -⟩ := (legal_iff s.cfg).1 hl
  have plays := plays_hold_commit (s := startAt .sleep .sSet (acceptUpdate s)) (q := .sHold) (d := s.cfg.tSleepUs)
    (u := driveSck 1 (startAt .sleep .sSet (acceptUpdate s))) hl rfl nofun rfl rfl (by omega) rfl rfl (.sSet rfl rfl)
    (by simp [afterDelay, Point.commits]) (.sCommit (by simp [afterDelay]))
  obtain ⟨hL, hr⟩ := plays.runCommand (exec_sleep hb hi) ht
  rw [quiet, List.length_replicate] at hL hr
  have asleep := Sensor.lowPower_of_high (driveSck 1 (startAt .sleep .sSet (acceptUpdate s))).sensor
    (show lowPowerAfter < s.cfg.tSleepUs from hsleep)
  refine ⟨hL, _, hr, ?_⟩
  simpa [State.withTurns, held, hi, waited_sensor] using asleep

/-! ## WAKE -/

/-- The sensor after WAKE's PinSet: known, out of low-power mode and settled within WAKE's Delay, if it was known or if
SCK was high and it in low-power mode (42_power.md R107, 70_reset_and_hazards.md R144). -/
theorem sensor_woken {s : State} (hi : s.init = true) (hp : s.pp = .kSet)
    (h : SensorInv s ∧ s.sensor.known = true ∨ s.sck = 1 ∧ s.sensor.lowPower = true) :
    (wakeSensor s.sensor (driveSck 0 s)).sensor.known = true
      ∧ (wakeSensor s.sensor (driveSck 0 s)).sensor.lowPower = false
      ∧ (wakeSensor s.sensor (driveSck 0 s)).sensor.settle ≤ settleTicks s.cfg := by
  obtain ⟨hv, hk⟩ | ⟨hs, hlow⟩ := h
  · have known : (wakeSensor s.sensor (driveSck 0 s)).sensor.known = true := by
      simp_all [wakeSensor, Sensor.known]
    exact ⟨known, (sound_driveSck hv.sound 0).lowWakes rfl, hv.settle_at_wake hi hp known⟩
  · have hsensor := driveSck_low_sensor s
    rw [if_pos hs] at hsensor
    have low : (driveSck 0 s).sensor.lowPower = false := by rw [hsensor]; exact Sensor.fall_lowPower _ _
    have settle : (driveSck 0 s).sensor.settle ≤ settleTicks s.cfg := by rw [hsensor]; simp [Sensor.fall, hlow]
    exact ⟨by simp [wakeSensor, hlow, Sensor.known], low, settle⟩

/-- Settles O46: K_SET's pulse edge, the settle delay and the commit. -/
theorem wakeRunsToCompletion : Obligations.WakeRunsToCompletion := by
  intro s ts hl hb hi ht
  let u := startAt .wake .kSet (acceptUpdate s)
  have plays := plays_hold_commit (s := u) (q := .kSettle) (d := settleTicks s.cfg)
    (u := wakeSensor u.sensor (driveSck 0 u)) hl rfl nofun rfl rfl (settleTicks_lt hl) rfl rfl (.kSet rfl rfl)
    (by simp [afterDelay, Point.commits]) (.kCommit (by simp [afterDelay]))
  obtain ⟨hL, hr⟩ := plays.runCommand (exec_wake hb hi) ht
  rw [quiet, List.length_replicate] at hL hr
  have sensor : (s.Inv ∧ SensorInv s ∧ s.sensor.known = true) ∨ (s.sck = 1 ∧ s.sensor.lowPower = true) →
      let x := (held .kSettle (settleTicks s.cfg) (wakeSensor u.sensor (driveSck 0 u))).sensor
      x.known = true ∧ x.lowPower = false ∧ x.settle = 0 ∧ x.nextSel = s.cfg.selAfterPowerup := by
    intro h
    have started : SensorInv u ∧ u.sensor.known = true ∨ u.sck = 1 ∧ u.sensor.lowPower = true :=
      h.imp_left fun ⟨h, hv, hk⟩ =>
        ⟨hv.of_idle (h.pp_of_idle hb) (by simp [u, Point.starts]) (exec_frame (exec_wake hb hi)), hk⟩
    obtain ⟨hk, hlow, hsettle⟩ := sensor_woken (s := u) hi rfl started
    have settled : (held .kSettle (settleTicks s.cfg) (wakeSensor u.sensor (driveSck 0 u))).sensor
        = { (wakeSensor u.sensor (driveSck 0 u)).sensor with settle := 0 } := held_settle rfl hsettle
    rw [settled]
    exact ⟨hk, hlow, rfl, rfl⟩
  refine ⟨hL, _, hr, ?_⟩
  simpa [State.withTurns, held, hi, u] using sensor

end Sys2Proof.Machine

/-! PROOFS. The schedules of WAIT_READY and READ (41_acquire.md): where the running command stands after each part. -/

namespace Sys2Proof.Machine

/-! ## Where a command stands -/

/-- What a ready wait and a READ change while they run: the position, the counters, the ticks that have passed since the
acceptance, and the levels of the lines. -/
structure Snap where
  pp : Point
  acc : Code
  bit : Nat
  trail : Nat
  passed : Nat
  sck : Level
  dout : Level

/-- The command of u stands at x in t; all else of the block is as in u. -/
structure At (u : State) (x : Snap) (t : State) : Prop extends SameCommand u t where
  ovr : t.ovr = u.ovr
  arg : t.arg = u.arg
  doutMode : t.doutMode = u.doutMode
  pp : t.pp = x.pp
  acc : t.acc = x.acc
  bit : t.bit = x.bit
  trail : t.trail = x.trail
  now : t.now = u.now + ticks x.passed
  sck : t.sck = x.sck
  dout : t.dout = x.dout

/-- Where a state's own command stands. -/
def State.snap (u : State) : Snap where
  pp := u.pp
  acc := u.acc
  bit := u.bit
  trail := u.trail
  passed := 0
  sck := u.sck
  dout := u.dout

theorem at_snap (u : State) : At u u.snap u where
  toSameCommand := by constructor <;> rfl
  ovr := rfl
  arg := rfl
  doutMode := rfl
  pp := rfl
  acc := rfl
  bit := rfl
  trail := rfl
  now := by simp [State.snap, ticks]
  sck := rfl
  dout := rfl

theorem ticks_add (m n : Nat) : ticks (m + n) = ticks m + ticks n := BitVec.ofNat_add m n

/-- The end of a Delay of d ticks. -/
theorem At.held {u v : State} {x : Snap} (h : At u x v) (q : Point) (d : Nat) :
    At u { x with pp := afterDelay { v with pp := q }, passed := x.passed + d } (held q d v) where
  cfg := by simp [Machine.held, h.cfg]
  init := by simp [Machine.held, h.init]
  sel := by simp [Machine.held, h.sel]
  asleep := by simp [Machine.held, h.asleep]
  busy := by simp [Machine.held, h.busy]
  err := by simp [Machine.held, h.err]
  valid := by simp [Machine.held, h.valid]
  result := by simp [Machine.held, h.result]
  op := by simp [Machine.held, h.op]
  opnd := by simp [Machine.held, h.opnd]
  t0 := by simp [Machine.held, h.t0]
  tmo := by simp [Machine.held, h.tmo]
  ovr := by simp [Machine.held, h.ovr]
  arg := by simp [Machine.held, h.arg]
  doutMode := by simp [Machine.held, h.doutMode]
  pp := by simp
  acc := by simp [Machine.held, h.acc]
  bit := by simp [Machine.held, h.bit]
  trail := by simp [Machine.held, h.trail]
  now := by simp [h.now, ticks_add, BitVec.add_assoc]
  sck := by simp [Machine.held, h.sck]
  dout := by simp [Machine.held, h.dout]

/-- An event that enters a Delay at q, and the Delay, which leads to r. -/
theorem At.hold {u s v : State} {x y : Snap} {q r : Point} {d : Nat} (h : At u x s) (hl : u.cfg.legal = true)
    (hb : u.busy = true) (hp : x.pp ≠ .idle) (hd : x.pp.isDelay = false) (hq : q.isDelay = true) (hlt : d < 2 ^ 64)
    (hv : At u y v) (hev : EventTo false s (holdAt q d v)) (hr : afterDelay { v with pp := q } = r) :
    ∃ t, Plays (quiet (d + 2)) s x.pp.lineOp t ∧ At u { y with pp := r, passed := y.passed + d } t := by
  have plays := plays_hold (h.cfg ▸ hl) (h.busy.trans hb) (h.pp ▸ hp) (h.pp ▸ hd) hq hlt (hv.cfg.trans h.cfg.symm)
    (hv.busy.trans h.busy.symm) hev
  exact ⟨_, h.pp ▸ plays, hr ▸ hv.held q d⟩

/-- A turn of the sensor that leaves DOUT at l. -/
theorem At.sensor {u s : State} {x : Snap} {l : Level} (h : At u x s) (hl : u.cfg.legal = true) (e : SensorEvent)
    (hd : (sensorMove e s).dout = l) : ∃ t, Plays [.sensor e] s [] t ∧ At u { x with dout := l } t := by
  refine ⟨_, plays_sensor e (h.cfg ▸ hl), ?_⟩
  obtain ⟨same, hovr, harg, hmode, hpp, hacc, hbit, htrail, hnow, hsck, -⟩ := h
  obtain ⟨c1, c2, c3, c4, c5, c6, c7, c8, c9, c10, c11, c12⟩ := same
  cases e <;> exact ⟨⟨c1, c2, c3, c4, c5, c6, c7, c8, c9, c10, c11, c12⟩, hovr, harg, hmode, hpp, hacc, hbit, htrail, hnow,
    hsck, hd⟩

/-- A pin operation that returns ok leads the command to the state t, at no tick's cost. -/
theorem At.event {u s t : State} {x : Snap} (h : At u x s) (hl : u.cfg.legal = true) (hb : u.busy = true)
    (hp : x.pp ≠ .idle) (hd : x.pp.isDelay = false) (hev : EventTo false s t) : Plays (quiet 1) s x.pp.lineOp t :=
  h.pp ▸ plays_event (h.cfg ▸ hl) (h.busy.trans hb) (h.pp ▸ hp) (h.pp ▸ hd) hev

/-! ## The ready wait -/

/-- A ready sample's point and that of the poll Delay after it. -/
def waitPoints : List (Point × Point) := [(.wSample, .wPoll), (.rwSample, .rwPoll)]

theorem waitPoints_spec {p q : Point} (h : (p, q) ∈ waitPoints) :
    (p.isDelay = false ∧ p.lineOp = [.get] ∧ p ≠ .idle)
      ∧ q.isDelay = true ∧ q ≠ .idle ∧ ∀ s : State, afterDelay { s with pp := q } = p := by
  simp only [waitPoints, List.mem_cons, Prod.mk.injEq, List.not_mem_nil, or_false] at h
  obtain ⟨rfl, rfl⟩ | ⟨rfl, rfl⟩ := h <;> exact ⟨⟨rfl, rfl, nofun⟩, rfl, nofun, fun _ => rfl⟩

/-- Elapsed time counts the ticks since the acceptance: it does not wrap. -/
theorem At.elapsed_toNat {u s : State} {x : Snap} (h : At u x s) (ht0 : u.t0 = u.now) (hx : x.passed < 2 ^ 64) :
    (elapsed s).toNat = x.passed := by
  rw [elapsed, h.now, h.t0, ht0, BitVec.add_comm, BitVec.add_sub_cancel, ticks, BitVec.toNat_ofNat, Nat.mod_eq_of_lt hx]

/-- The polls of a ready wait of n ticks take the first multiple of P that is at least n (41_acquire.md R91). -/
theorem pollTicks_bounds {c : Config} (hP : 1 ≤ c.tPollUs) (n : Nat) :
    n ≤ pollTicks c n ∧ pollTicks c n < n + c.tPollUs ∧ pollTicks c n = pollTicks c n / c.tPollUs * c.tPollUs := by
  have hdiv := Nat.div_add_mod' (n + (c.tPollUs - 1)) c.tPollUs
  have hmod := Nat.mod_lt (n + (c.tPollUs - 1)) (show c.tPollUs > 0 by omega)
  refine ⟨?_, ?_, ?_⟩
  · rw [pollTicks]; omega
  · rw [pollTicks]; omega
  · rw [pollTicks, Nat.mul_div_cancel _ (by omega)]

section
variable {u s : State} {x : Snap} (hl : u.cfg.legal = true) (hb : u.busy = true) (ht0 : u.t0 = u.now)
include hl hb ht0

/-- A ready sample that finds DOUT = 1 before the deadline, and its poll Delay (41_acquire.md R91). -/
theorem At.poll {p q : Point} (h : At u x s) (hpq : (p, q) ∈ waitPoints) (hp : x.pp = p) (hd : x.dout = 1)
    (ht : x.passed < u.tmo.toNat) :
    ∃ t, Plays (quiet (u.cfg.tPollUs + 2)) s [.get] t ∧ At u { x with passed := x.passed + u.cfg.tPollUs } t := by
  obtain ⟨-, -, -, -, ⟨-, hP⟩, -⟩ := (legal_iff u.cfg).1 hl
  have before : elapsed s < s.tmo := by
    rw [BitVec.lt_def, h.elapsed_toNat ht0 (ht.trans u.tmo.isLt), h.tmo]
    exact ht
  obtain ⟨⟨hsample, hget, hidle⟩, hpoll, -, hback⟩ := waitPoints_spec hpq
  have hpoint : s.pp = .wSample ∧ q = .wPoll ∨ s.pp = .rwSample ∧ q = .rwPoll := by
    simpa [waitPoints, h.pp, hp] using hpq
  have entry : EventTo false s (holdAt q u.cfg.tPollUs s) := h.cfg ▸ .poll q hpoint rfl (h.dout.trans hd) before
  subst hp
  obtain ⟨t, plays, ht⟩ := h.hold hl hb hidle hsample hpoll (by omega) h entry (hback s)
  exact ⟨t, hget ▸ plays, ht⟩

/-- j of them. -/
theorem At.polls {p q : Point} (h : At u x s) (hpq : (p, q) ∈ waitPoints) (hp : x.pp = p) (hd : x.dout = 1)
    (hx : x.passed = 0) (j : Nat) (ht : j * u.cfg.tPollUs < u.tmo.toNat + u.cfg.tPollUs) :
    ∃ t, Plays (quiet (j * (u.cfg.tPollUs + 2))) s (List.replicate j .get) t
      ∧ At u { x with passed := j * u.cfg.tPollUs } t := by
  induction j with
  | zero => exact ⟨s, by rw [Nat.zero_mul]; exact .nil s, by rw [Nat.zero_mul, ← hx]; exact h⟩
  | succ j ih =>
    rw [Nat.succ_mul] at ht
    obtain ⟨v, playsv, hv⟩ := ih (by omega)
    obtain ⟨t, playst, ht⟩ := hv.poll hl hb ht0 hpq hp hd (show j * u.cfg.tPollUs < _ by omega)
    refine ⟨t, ?_, by rw [Nat.succ_mul]; exact ht⟩
    rw [Nat.succ_mul, quiet_add, List.replicate_succ']
    exact playsv.trans playst

/-- The schedule readyAt up to the ready sample. -/
theorem At.readyAt {p q : Point} (h : At u x s) (hpq : (p, q) ∈ waitPoints) (hp : x.pp = p) (hx : x.passed = 0) (j : Nat)
    (ht : j * u.cfg.tPollUs < u.tmo.toNat + u.cfg.tPollUs) :
    ∃ t, Plays (readyAt u.cfg j) s (List.replicate j .get) t
      ∧ At u { x with passed := j * u.cfg.tPollUs, dout := 0 } t := by
  obtain ⟨v, playsv, hv⟩ := h.sensor hl (.drive 1) rfl
  obtain ⟨w, playsw, hw⟩ := hv.polls hl hb ht0 hpq hp rfl hx j ht
  obtain ⟨t, playst, ht⟩ := hw.sensor hl (.drive 0) rfl
  have plays := (playsv.trans playsw).trans playst
  rw [List.nil_append, List.append_nil] at plays
  exact ⟨t, plays, ht⟩

/-- The schedule neverReady up to the last sample. -/
theorem At.neverReady {p q : Point} (h : At u x s) (hpq : (p, q) ∈ waitPoints) (hp : x.pp = p) (hx : x.passed = 0)
    {e : SensorEvent} (he : holdsHigh e s) :
    ∃ t, Plays (.sensor e :: quiet (pollTicks u.cfg u.tmo.toNat / u.cfg.tPollUs * (u.cfg.tPollUs + 2))) s
        (List.replicate (pollTicks u.cfg u.tmo.toNat / u.cfg.tPollUs) .get) t
      ∧ At u { x with passed := pollTicks u.cfg u.tmo.toNat, dout := 1 } t := by
  obtain ⟨-, -, -, -, ⟨hP, -⟩, -⟩ := (legal_iff u.cfg).1 hl
  obtain ⟨-, hlt, hmul⟩ := pollTicks_bounds hP u.tmo.toNat
  have hdout : (sensorMove e s).dout = 1 := by
    cases e with
    | drive l => exact he
    | release => exact dout_pulledUp _ rfl he
    | convert => exact he.elim
  obtain ⟨v, playsv, hv⟩ := h.sensor hl e hdout
  obtain ⟨t, playst, ht⟩ := hv.polls hl hb ht0 hpq hp rfl hx _ (hmul ▸ hlt)
  exact ⟨t, playsv.trans playst, by rwa [← hmul] at ht⟩

/-- The last sample of a ready wait whose deadline is over. -/
theorem At.timesOut {p q : Point} (h : At u x s) (hpq : (p, q) ∈ waitPoints) (hp : x.pp = p) (hd : x.dout = 1)
    (hx : x.passed < 2 ^ 64) (ht : u.tmo.toNat ≤ x.passed) :
    Plays (quiet 1) s [.get] (raiseStatus .notReady s) := by
  have after : s.tmo ≤ elapsed s := by
    rw [BitVec.le_def, h.elapsed_toNat ht0 hx, h.tmo]
    exact ht
  obtain ⟨⟨hsample, hget, hidle⟩, -⟩ := waitPoints_spec hpq
  have hpoint : s.pp = .wSample ∨ s.pp = .rwSample := by
    simp only [waitPoints, List.mem_cons, Prod.mk.injEq, List.not_mem_nil, or_false] at hpq
    rw [h.pp, hp]
    exact hpq.imp And.left And.left
  subst hp
  exact hget ▸ h.event hl hb hidle hsample (.timedOut hpoint rfl (h.dout.trans hd) after)

/-- The schedule neverReady: the ready wait times out. -/
theorem At.playsNeverReady {p q : Point} (h : At u x s) (hpq : (p, q) ∈ waitPoints) (hp : x.pp = p) (hx : x.passed = 0)
    {e : SensorEvent} (he : holdsHigh e s) (htmo : u.tmo.toNat ≤ maxTimeout) :
    ∃ t, Plays (Machine.neverReady u.cfg e u.tmo.toNat) s
        (List.replicate (pollTicks u.cfg u.tmo.toNat / u.cfg.tPollUs + 1) .get) (raiseStatus .notReady t)
      ∧ At u { x with passed := pollTicks u.cfg u.tmo.toNat, dout := 1 } t := by
  obtain ⟨-, -, -, -, ⟨hP, hPlt⟩, -⟩ := (legal_iff u.cfg).1 hl
  obtain ⟨hle, hlt, -⟩ := pollTicks_bounds hP u.tmo.toNat
  unfold maxTimeout msTicks at htmo
  obtain ⟨t, plays, ht⟩ := h.neverReady hl hb ht0 hpq hp hx he
  have last := ht.timesOut hl hb ht0 hpq hp rfl (show pollTicks u.cfg u.tmo.toNat < _ by omega) hle
  refine ⟨t, ?_, ht⟩
  rw [Machine.neverReady, quiet_add, List.replicate_succ', ← List.cons_append]
  exact plays.trans last

end

/-- The state of a WAIT_READY and of a READ just accepted. -/
def waitStart (s : State) : State := startAt .waitReady .wSample (startWait (argTimeout s.arg) (acceptUpdate s))

def readStart (s : State) : State := startAt .read .rwSample (startWait (readTimeout s.cfg) (acceptUpdate s))

end Sys2Proof.Machine

/-! PROOFS. The schedule of a READ that returns a code (41_acquire.md R92 to R98): data pulses, trailing pulses and the
commit. -/

namespace Sys2Proof.Machine

/-! ## The levels of a code -/

/-- The levels of a code, shifted in, form it (41_acquire.md R93). -/
theorem foldl_shiftIn_codeBits (code : Code) : (codeBits code).foldl shiftIn 0 = code := by
  have firstBits_toNat (n : Nat) (hn : n ≤ 24) :
      (((List.range n).map fun k => BitVec.ofBool (code.getLsbD (23 - k))).foldl shiftIn 0).toNat
        = code.toNat / 2 ^ (24 - n) := by
    induction n with
    | zero => exact (Nat.div_eq_of_lt code.isLt).symm
    | succ n ih =>
      rw [List.range_succ, List.map_append, List.foldl_append]
      exact shiftIn_code_bit (ih (by omega)) (by omega)
  refine BitVec.eq_of_toNat_eq ?_
  rw [codeBits, firstBits_toNat 24 (le_refl _), Nat.sub_self, pow_zero, Nat.div_one]

/-! ## Pulses -/

/-- The point of a READ's data phase before the next pulse, and after the last. -/
def dataPoint (bit : Nat) : Point := if bit < 24 then .dRise else .tRise

/-- The point of its trailing phase. -/
def trailPoint (trail : Nat) (sel : Sel) : Point := if trail < trailingPulses sel then .tRise else .rCommit

theorem At.driveSck {u s : State} {x : Snap} (h : At u x s) (l : Level) : At u { x with sck := l } (driveSck l s) := by
  obtain ⟨⟨c1, c2, c3, c4, c5, c6, c7, c8, c9, c10, c11, c12⟩, hovr, harg, hmode, hpp, hacc, hbit, htrail, hnow, -, hd⟩ := h
  exact ⟨⟨c1, c2, c3, c4, c5, c6, c7, c8, c9, c10, c11, c12⟩, hovr, harg, hmode, hpp, hacc, hbit, htrail, hnow, rfl, hd⟩

theorem At.goTo {u s : State} {x : Snap} (h : At u x s) (p : Point) : At u { x with pp := p } (goTo p s) := by
  obtain ⟨⟨c1, c2, c3, c4, c5, c6, c7, c8, c9, c10, c11, c12⟩, hovr, harg, hmode, -, hacc, hbit, htrail, hnow, hsck, hd⟩ := h
  exact ⟨⟨c1, c2, c3, c4, c5, c6, c7, c8, c9, c10, c11, c12⟩, hovr, harg, hmode, rfl, hacc, hbit, htrail, hnow, hsck, hd⟩

theorem At.count {u s : State} {x y : Snap} (h : At u x s) {acc : Code} {bit trail : Nat} (hacc : acc = y.acc)
    (hbit : bit = y.bit) (htrail : trail = y.trail) :
    At u { x with acc := y.acc, bit := y.bit, trail := y.trail }
      { s with acc := acc, bit := bit, trail := trail } := by
  obtain ⟨⟨c1, c2, c3, c4, c5, c6, c7, c8, c9, c10, c11, c12⟩, hovr, harg, hmode, hpp, -, -, -, hnow, hsck, hd⟩ := h
  exact ⟨⟨c1, c2, c3, c4, c5, c6, c7, c8, c9, c10, c11, c12⟩, hovr, harg, hmode, hpp, hacc, hbit, htrail, hnow, hsck, hd⟩

section
variable {u s : State} {x : Snap} (hl : u.cfg.legal = true) (hb : u.busy = true)
include hl hb

/-- A rising edge and the high time. -/
theorem At.rise {p q r : Point} (h : At u x s)
    (hpq : p = .dRise ∧ q = .dHigh ∧ r = .dSample ∨ p = .tRise ∧ q = .tHigh ∧ r = .tFall) (hp : x.pp = p) :
    ∃ t, Plays (quiet (u.cfg.tHighUs + 2)) s [.set 1] t
      ∧ At u { x with pp := r, passed := x.passed + u.cfg.tHighUs, sck := 1 } t := by
  obtain ⟨⟨-, hH⟩, -⟩ := (legal_iff u.cfg).1 hl
  have enters (hq : s.pp = .dRise ∧ q = .dHigh ∨ s.pp = .tRise ∧ q = .tHigh) :
      EventTo false s (holdAt q u.cfg.tHighUs (Machine.driveSck 1 s)) := h.cfg ▸ .rise q hq rfl
  obtain ⟨rfl, rfl, rfl⟩ | ⟨rfl, rfl, rfl⟩ := hpq
  · obtain ⟨t, plays, ht⟩ := h.hold hl hb (by simp [hp]) (by rw [hp]; rfl) rfl (by omega) (h.driveSck 1)
      (enters (.inl ⟨h.pp.trans hp, rfl⟩)) rfl
    exact ⟨t, by rwa [hp] at plays, ht⟩
  · obtain ⟨t, plays, ht⟩ := h.hold hl hb (by simp [hp]) (by rw [hp]; rfl) rfl (by omega) (h.driveSck 1)
      (enters (.inr ⟨h.pp.trans hp, rfl⟩)) rfl
    exact ⟨t, by rwa [hp] at plays, ht⟩

/-- The sample of a data bit. -/
theorem At.sample (h : At u x s) (hp : x.pp = .dSample) :
    ∃ t, Plays (quiet 1) s [.get] t
      ∧ At u { x with pp := .dFall, acc := shiftIn x.acc x.dout, bit := x.bit + 1 } t := by
  have plays := h.event hl hb (by simp [hp]) (by rw [hp]; rfl) (.sample (h.pp.trans hp) rfl)
  rw [hp] at plays
  exact ⟨_, plays, (h.count (y := { x with acc := shiftIn x.acc x.dout, bit := x.bit + 1 })
    (congrArg₂ shiftIn h.acc h.dout) (congrArg (· + 1) h.bit) h.trail).goTo .dFall⟩

/-- The falling edge of a data pulse and the low time. -/
theorem At.dFall (h : At u x s) (hp : x.pp = .dFall) :
    ∃ t, Plays (quiet (u.cfg.tLowUs + 2)) s [.set 0] t
      ∧ At u { x with pp := dataPoint x.bit, passed := x.passed + u.cfg.tLowUs, sck := 0 } t := by
  obtain ⟨-, ⟨-, hL⟩, -⟩ := (legal_iff u.cfg).1 hl
  have enters : EventTo false s (holdAt .dLow u.cfg.tLowUs (Machine.driveSck 0 s)) :=
    h.cfg ▸ .dFall (h.pp.trans hp) rfl
  obtain ⟨t, plays, ht⟩ := h.hold (r := dataPoint x.bit) hl hb (by simp [hp]) (by rw [hp]; rfl) rfl (by omega)
    (h.driveSck 0) enters (h.bit ▸ rfl)
  exact ⟨t, by rwa [hp] at plays, ht⟩

/-- The falling edge of a trailing pulse and the low time. -/
theorem At.tFall (h : At u x s) (hp : x.pp = .tFall) :
    ∃ t, Plays (quiet (u.cfg.tLowUs + 2)) s [.set 0] t
      ∧ At u { x with
          pp := trailPoint (x.trail + 1) u.sel, trail := x.trail + 1, passed := x.passed + u.cfg.tLowUs, sck := 0 } t := by
  obtain ⟨-, ⟨-, hL⟩, -⟩ := (legal_iff u.cfg).1 hl
  have enters : EventTo false s (holdAt .tLow u.cfg.tLowUs { Machine.driveSck 0 s with trail := s.trail + 1 }) :=
    h.cfg ▸ .tFall (h.pp.trans hp) rfl
  have low := h.driveSck 0
  have counted : At u { x with trail := x.trail + 1, sck := 0 } { Machine.driveSck 0 s with trail := s.trail + 1 } :=
    low.count (y := { x with trail := x.trail + 1 }) low.acc low.bit (congrArg (· + 1) low.trail)
  obtain ⟨t, plays, ht⟩ := h.hold (r := trailPoint (x.trail + 1) u.sel) hl hb (by simp [hp]) (by rw [hp]; rfl) rfl
    (by omega) counted enters (by rw [← h.trail, ← h.sel]; rfl)
  exact ⟨t, by rwa [hp] at plays, ht⟩

/-- A data pulse before whose sample the sensor sets DOUT to b. -/
theorem At.dataPulse (h : At u x s) (hp : x.pp = .dRise) (b : Level) :
    ∃ t, Plays (dataPulse u.cfg b) s [.set 1, .get, .set 0] t
      ∧ At u { x with
          pp := dataPoint (x.bit + 1), acc := shiftIn x.acc b, bit := x.bit + 1
          passed := x.passed + pulseTicks u.cfg, sck := 0, dout := b } t := by
  obtain ⟨s1, plays1, h1⟩ := h.rise hl hb (.inl ⟨rfl, rfl, rfl⟩) hp
  obtain ⟨s2, plays2, h2⟩ := h1.sensor hl (.drive b) rfl
  obtain ⟨s3, plays3, h3⟩ := h2.sample hl hb rfl
  obtain ⟨s4, plays4, h4⟩ := h3.dFall hl hb rfl
  have plays := plays1.trans (plays2.trans (plays3.trans plays4))
  refine ⟨s4, ?_, by rw [pulseTicks, ← Nat.add_assoc]; exact h4⟩
  rw [← quiet_add, Nat.add_comm 1] at plays
  exact plays

/-- Data pulses, up to the last. -/
theorem At.dataPulses (bs : List Level) (h : At u x s) (hp : x.pp = dataPoint x.bit) (hn : x.bit + bs.length = 24) :
    ∃ t l d, Plays (bs.flatMap (Machine.dataPulse u.cfg)) s (List.replicate bs.length [.set 1, .get, .set 0]).flatten t
      ∧ At u { x with
          pp := .tRise, acc := bs.foldl shiftIn x.acc, bit := 24
          passed := x.passed + bs.length * pulseTicks u.cfg, sck := l, dout := d } t := by
  induction bs generalizing s x with
  | nil =>
    have hbit : x.bit = 24 := hn
    rw [hbit] at hp
    refine ⟨s, x.sck, x.dout, .nil s, ?_⟩
    rw [List.length_nil, Nat.zero_mul, ← hbit, ← show x.pp = .tRise from hp]
    exact h
  | cons b bs ih =>
    rw [List.length_cons] at hn
    rw [dataPoint, if_pos (by omega)] at hp
    obtain ⟨v, playsv, hv⟩ := h.dataPulse hl hb hp b
    obtain ⟨t, l, d, playst, ht⟩ := ih hv rfl (show x.bit + 1 + bs.length = 24 by omega)
    refine ⟨t, l, d, playsv.trans playst, ?_⟩
    rw [List.length_cons, Nat.succ_mul, Nat.add_comm (_ * _), ← Nat.add_assoc]
    exact ht

/-- A trailing pulse. -/
theorem At.trailPulse (h : At u x s) (hp : x.pp = .tRise) :
    ∃ t, Plays (quiet (u.cfg.tHighUs + u.cfg.tLowUs + 4)) s [.set 1, .set 0] t
      ∧ At u { x with
          pp := trailPoint (x.trail + 1) u.sel, trail := x.trail + 1, passed := x.passed + pulseTicks u.cfg, sck := 0 } t := by
  obtain ⟨v, playsv, hv⟩ := h.rise hl hb (.inr ⟨rfl, rfl, rfl⟩) hp
  obtain ⟨t, playst, ht⟩ := hv.tFall hl hb rfl
  refine ⟨t, ?_, by rw [pulseTicks, ← Nat.add_assoc]; exact ht⟩
  have plays := playsv.trans playst
  rwa [← quiet_add, show u.cfg.tHighUs + 2 + (u.cfg.tLowUs + 2) = u.cfg.tHighUs + u.cfg.tLowUs + 4 by omega] at plays

/-- Trailing pulses, up to the last. -/
theorem At.trailPulses (n : Nat) (h : At u x s) (hp : x.pp = .tRise) (hn : x.trail + (n + 1) = trailingPulses u.sel) :
    ∃ t, Plays (quiet ((n + 1) * (u.cfg.tHighUs + u.cfg.tLowUs + 4))) s
        (List.replicate (n + 1) [.set 1, .set 0]).flatten t
      ∧ At u { x with
          pp := .rCommit, trail := trailingPulses u.sel, passed := x.passed + (n + 1) * pulseTicks u.cfg, sck := 0 } t := by
  induction n generalizing s x with
  | zero =>
    obtain ⟨t, plays, ht⟩ := h.trailPulse hl hb hp
    rw [hn, trailPoint, if_neg (lt_irrefl _)] at ht
    exact ⟨t, by simpa using plays, by simpa using ht⟩
  | succ n ih =>
    obtain ⟨v, playsv, hv⟩ := h.trailPulse hl hb hp
    rw [trailPoint, if_pos (by omega)] at hv
    obtain ⟨t, playst, ht⟩ := ih hv rfl (show x.trail + 1 + (n + 1) = _ by omega)
    refine ⟨t, ?_, ?_⟩
    · rw [Nat.succ_mul (n + 1), Nat.add_comm (_ * _), quiet_add]
      exact playsv.trans playst
    · rw [Nat.succ_mul (n + 1), Nat.add_comm (_ * _), ← Nat.add_assoc]
      exact ht

end

/-! ## The whole READ -/

/-- The line operations of a READ that is ready at sample j (41_acquire.md R98). -/
def readOps (sel : Sel) (j : Nat) : List LineOp :=
  List.replicate (j + 1) .get ++ (List.replicate 24 [LineOp.set 1, .get, .set 0]).flatten
    ++ (List.replicate (trailingPulses sel) [LineOp.set 1, .set 0]).flatten

/-- The schedule readTurns leads a READ to its commit. -/
theorem plays_readTurns {s : State} {j : Nat} (code : Code) (hl : s.cfg.legal = true)
    (hj : j * s.cfg.tPollUs < msTicks s.cfg.tReadTimeoutMs + s.cfg.tPollUs) :
    ∃ v x, Plays (readTurns s.cfg s.sel j code) (readStart s) (readOps s.sel j)
        (finish { v with result := sext32 v.acc, valid := true })
      ∧ At (readStart s) x v ∧ x.acc = code ∧ x.sck = 0
      ∧ x.passed = j * s.cfg.tPollUs + totalPulses s.sel * pulseTicks s.cfg := by
  rw [← readTimeout_toNat hl] at hj
  obtain ⟨s1, plays1, h1⟩ := (at_snap (readStart s)).readyAt (u := readStart s) (p := .rwSample) (q := .rwPoll) hl rfl rfl
    (by simp [waitPoints]) rfl rfl j hj
  have plays2 : Plays (quiet 1) s1 [.get] _ := h1.event (u := readStart s) hl rfl nofun rfl (.readFound h1.pp rfl h1.dout)
  have h2 := (h1.count (y := ⟨.dRise, 0, 0, 0, 0, 0, 0⟩) rfl rfl rfl).goTo .dRise
  obtain ⟨s3, l, d, plays3, h3⟩ := h2.dataPulses (u := readStart s) hl rfl (codeBits code) rfl (by simp [codeBits])
  obtain ⟨s4, plays4, h4⟩ := h3.trailPulses (u := readStart s) hl rfl s.sel.toNat rfl (Nat.zero_add _)
  have plays5 : Plays (quiet 1) s4 [] _ := h4.event (u := readStart s) hl rfl nofun rfl (.rCommit h4.pp)
  refine ⟨s4, _, ?_, h4, ?_, rfl, ?_⟩
  · have plays := ((plays1.trans plays2).trans plays3).trans (plays4.trans plays5)
    rw [← quiet_add, List.append_nil, ← List.replicate_succ', show (codeBits code).length = 24 by simp [codeBits]] at plays
    exact plays
  · exact foldl_shiftIn_codeBits code
  · change j * s.cfg.tPollUs + (codeBits code).length * pulseTicks s.cfg + (s.sel.toNat + 1) * pulseTicks s.cfg = _
    rw [totalPulses, codeBits, List.length_map, List.length_range]
    ring

/-- The schedule readTurns from the write of READ's word. -/
theorem read_readTurns {s : State} {j : Nat} {code : Code} {ts : List Turn} (hl : s.cfg.legal = true)
    (hb : s.busy = false) (hi : s.init = true) (ha : s.asleep = false)
    (hj : j * s.cfg.tPollUs < msTicks s.cfg.tReadTimeoutMs + s.cfg.tPollUs)
    (ht : s.turns = readTurns s.cfg s.sel j code ++ ts) :
    (∀ u, exec .read s = .next u → lineTrace (readTurns s.cfg s.sel j code).length u = readOps s.sel j)
      ∧ ∃ t, runCommand .read (readTurns s.cfg s.sel j code).length s = .next t
        ∧ t.result = sext32 code ∧ t.valid = true ∧ t.err = .ok ∧ t.busy = false ∧ t.ovr = false
        ∧ t.now = s.now + ticks (j * s.cfg.tPollUs + totalPulses s.sel * pulseTicks s.cfg)
        ∧ t.init = true ∧ t.asleep = false ∧ t.sel = s.sel ∧ t.arg = s.arg ∧ t.sck = 0 ∧ t.op = .none
        ∧ t.pp = .idle ∧ t.turns = ts := by
  obtain ⟨v, x, plays, hv, hacc, hsck, hpassed⟩ := plays_readTurns code hl hj
  obtain ⟨hL, hr⟩ := plays.runCommand (exec_read hb hi ha) ht
  refine ⟨hL, _, hr, ?_⟩
  simp [State.withTurns, hv.acc, hacc, hv.ovr, hv.now, hpassed, hv.init, hv.asleep, hv.sel, hv.arg, hv.sck, hsck,
    readStart, hi, ha]

/-- Settles O50: the state at the end of the schedule readTurns. -/
theorem readReturnsTheCode : Obligations.ReadReturnsTheCode := fun _ _ _ _ hl hb hi ha _ hj ht =>
  (read_readTurns hl hb hi ha hj ht).2

end Sys2Proof.Machine

/-! PROOFS. Every run of a ready wait (41_acquire.md R90, R91), whatever host accesses and sensor changes come in
between. -/

namespace Sys2Proof.Machine

/-! ## A step of a running command -/

/-- The tick at which the command's next event happens. -/
def clock (s : State) : Tick := if s.pp.isDelay then s.due else s.now

theorem clock_of_point {s : State} (h : s.pp.isDelay = false) : clock s = s.now := by simp [clock, h]

theorem clock_of_delay {s : State} (h : s.pp.isDelay = true) : clock s = s.due := by simp [clock, h]

theorem clock_holdAt {q : Point} (hq : q.isDelay = true) (d : Nat) (s : State) : clock (holdAt q d s) = s.now + ticks d :=
  clock_of_delay (s := holdAt q d s) hq

/-- A step of a running command is an engine event, or it leaves the command as it was: it makes no sample and no line
operation, and no tick passes but in a Delay. -/
theorem step_running {s t : State} (hs : step s = .next t) (hb : s.busy = true) (hp : s.pp ≠ .idle)
    (hr : (nextMove s).1 ≠ .reset) :
    (∃ e ts d, (nextMove s).1 = .engine e ∧ s.engineEnabled = true ∧ EventTo e { s with turns := ts, draws := d } t)
      ∨ (Undisturbed s t ∧ stepSamples s = [] ∧ stepLineOps s = [] ∧ clock t = clock s) := by
  have still : Undisturbed s t → t.now = s.now → clock t = clock s := fun same hn => by
    rw [clock, clock, same.pp, same.due, hn]
  obtain ⟨-, ts, d, ⟨hm, hx⟩ | ⟨e, hm, he, rfl⟩ | ⟨e, hm, rfl⟩ | ⟨hm, he, rfl⟩ | ⟨hm, -⟩⟩ := step_cases s t hs
  · have same := (undisturbed_hostAccess_of_busy hx hb).of_taken
    exact .inr ⟨same, by simp [stepSamples, hm], by simp [stepLineOps, hm], still same (hostAccess_frame hx).now⟩
  · exact .inl ⟨e, ts, d, hm, he, engineEvent_spec _ _⟩
  · have same : Undisturbed s (sensorMove e { s with turns := ts, draws := d }) := (undisturbed_sensorMove e _).of_taken
    exact .inr ⟨same, by simp [stepSamples, hm], by simp [stepLineOps, hm], still same (sensorMove_now _ _)⟩
  · have hd : s.pp.isDelay = true := by
      by_contra hd
      simp [enabled_of_point s hb hp (by simpa using hd)] at he
    exact .inr ⟨(undisturbed_timeStep _).of_taken, by simp [stepSamples, hm], by simp [stepLineOps, hm],
      by rw [clock_of_delay hd]; exact clock_of_delay (s := timeStep _) hd⟩
  · exact absurd hm hr

theorem EventTo.unique {e : Bool} {s t t' : State} (h : EventTo e s t) (h' : EventTo e s t') : t = t' :=
  h.eq.symm.trans h'.eq

/-- At the end of a Delay. -/
theorem EventTo.of_delay {e : Bool} {s t : State} (h : EventTo e s t) (hp : s.pp.isDelay = true) :
    t = goTo (afterDelay s) s :=
  h.unique (.delayEnds hp)

/-- What a ready sample finds. -/
theorem EventTo.of_sample {p q : Point} {e : Bool} {s t : State} (h : EventTo e s t) (hpq : (p, q) ∈ waitPoints)
    (hp : s.pp = p) :
    (pinFails e s = true ∧ t = raiseIo s)
      ∨ (pinFails e s = false ∧ s.dout = 0
        ∧ t = if p = .wSample then finish s else goTo .dRise { s with acc := 0, bit := 0, trail := 0 })
      ∨ (pinFails e s = false ∧ s.dout = 1 ∧ s.tmo ≤ elapsed s ∧ t = raiseStatus .notReady s)
      ∨ (pinFails e s = false ∧ s.dout = 1 ∧ elapsed s < s.tmo ∧ t = holdAt q s.cfg.tPollUs s) := by
  simp only [waitPoints, List.mem_cons, Prod.mk.injEq, List.not_mem_nil, or_false] at hpq
  cases hf : pinFails e s
  · obtain hd | hd := level_cases s.dout
    · refine .inr (.inl ⟨rfl, hd, ?_⟩)
      obtain ⟨rfl, rfl⟩ | ⟨rfl, rfl⟩ := hpq
      · exact h.unique (.found hp hf hd)
      · exact h.unique (.readFound hp hf hd)
    · refine .inr (.inr ?_)
      by_cases ht : s.tmo ≤ elapsed s
      · have hp' : s.pp = .wSample ∨ s.pp = .rwSample := by simpa [hp] using hpq.imp And.left And.left
        exact .inl ⟨rfl, hd, ht, h.unique (.timedOut hp' hf hd ht)⟩
      · have ht := BitVec.not_le.1 ht
        exact .inr ⟨rfl, hd, ht, h.unique (.poll q (by simpa [hp] using hpq) hf hd ht)⟩
  · exact .inl ⟨rfl, h.unique (.getFails (by obtain ⟨rfl, -⟩ | ⟨rfl, -⟩ := hpq <;> simp [hp]) hf)⟩

/-! ## A ready wait so far -/

theorem SameCommand.trans {s u t : State} (h : SameCommand s u) (h' : SameCommand u t) : SameCommand s t where
  cfg := h'.cfg.trans h.cfg
  init := h'.init.trans h.init
  sel := h'.sel.trans h.sel
  asleep := h'.asleep.trans h.asleep
  busy := h'.busy.trans h.busy
  err := h'.err.trans h.err
  valid := h'.valid.trans h.valid
  result := h'.result.trans h.result
  op := h'.op.trans h.op
  opnd := h'.opnd.trans h.opnd
  t0 := h'.t0.trans h.t0
  tmo := h'.tmo.trans h.tmo

/-- The ready wait of u, at the points p and q, has made k polls, of the samples S and the line operations L. -/
structure WaitSoFar (p q : Point) (u s : State) (k : Nat) (S : List Level) (L : List LineOp) : Prop where
  same : SameCommand u s
  point : s.pp = p ∨ s.pp = q
  now : clock s = u.now + ticks (k * u.cfg.tPollUs)
  before : k * u.cfg.tPollUs < u.tmo.toNat + u.cfg.tPollUs
  samples : S = List.replicate k 1
  ops : L = List.replicate k .get

/-- The ready wait of u ends at the sample in s, after k polls: it fails, or it finds DOUT = 0, or the deadline is
over. -/
structure WaitEnds (p : Point) (u s t : State) (k : Nat) (S : List Level) (L : List LineOp) : Prop where
  same : SameCommand u s
  now : s.now = u.now + ticks (k * u.cfg.tPollUs)
  before : k * u.cfg.tPollUs < u.tmo.toNat + u.cfg.tPollUs
  ops : L = List.replicate (k + 1) .get
  ends : t = raiseIo s
    ∨ (S = List.replicate k 1 ++ [0]
      ∧ t = if p = .wSample then finish s else goTo .dRise { s with acc := 0, bit := 0, trail := 0 })
    ∨ (S = List.replicate (k + 1) 1 ∧ u.tmo.toNat ≤ k * u.cfg.tPollUs ∧ t = raiseStatus .notReady s)

/-- An engine event at a ready sample. -/
theorem WaitSoFar.sample {p q : Point} {e : Bool} {u s t : State} {k : Nat} {S : List Level} {L : List LineOp}
    (hpq : (p, q) ∈ waitPoints) (hl : u.cfg.legal = true) (ht0 : u.t0 = u.now) (htmo : u.tmo.toNat ≤ maxTimeout)
    (h : WaitSoFar p q u s k S L) (hp : s.pp = p) (hev : EventTo e s t) :
    WaitSoFar p q u t (k + 1) (S ++ if pinFails e s = false then [s.dout] else []) (L ++ [.get])
      ∨ WaitEnds p u s t k (S ++ if pinFails e s = false then [s.dout] else []) (L ++ [.get]) := by
  obtain ⟨-, -, -, -, ⟨-, hP⟩, -⟩ := (legal_iff u.cfg).1 hl
  have hbefore := h.before
  unfold maxTimeout msTicks at htmo
  obtain ⟨⟨hsample, -, -⟩, hpoll, -, -⟩ := waitPoints_spec hpq
  have hnow : s.now = u.now + ticks (k * u.cfg.tPollUs) := by
    rw [← clock_of_point (hp ▸ hsample), h.now]
  have helapsed : (elapsed s).toNat = k * u.cfg.tPollUs := by
    rw [elapsed, hnow, h.same.t0, ht0, BitVec.add_comm, BitVec.add_sub_cancel, ticks, BitVec.toNat_ofNat]
    omega
  have hops : L ++ [.get] = List.replicate (k + 1) .get := by rw [h.ops, List.replicate_succ']
  have hsamples (l : Level) : S ++ [l] = List.replicate k 1 ++ [l] := by rw [h.samples]
  obtain ⟨hf, rfl⟩ | ⟨hf, hd, rfl⟩ | ⟨hf, hd, ht, rfl⟩ | ⟨hf, hd, ht, rfl⟩ := hev.of_sample hpq hp
  · exact .inr ⟨h.same, hnow, hbefore, hops, .inl rfl⟩
  · rw [if_pos hf, hd]
    exact .inr ⟨h.same, hnow, hbefore, hops, .inr (.inl ⟨hsamples 0, rfl⟩)⟩
  · rw [if_pos hf, hd]
    rw [BitVec.le_def, helapsed, h.same.tmo] at ht
    exact .inr ⟨h.same, hnow, hbefore, hops, .inr (.inr ⟨by rw [hsamples, List.replicate_succ'], ht, rfl⟩)⟩
  · rw [if_pos hf, hd]
    rw [BitVec.lt_def, helapsed, h.same.tmo] at ht
    exact .inl {
      same := h.same.trans (by constructor <;> rfl)
      point := .inr rfl
      now := by
        rw [clock_holdAt hpoll, hnow, h.same.cfg, BitVec.add_assoc, ← ticks_add, Nat.succ_mul]
      before := by rw [Nat.succ_mul]; omega
      samples := by rw [hsamples, List.replicate_succ']
      ops := hops }

/-- The samples of an engine event at a point. -/
theorem stepSamples_engine {s : State} {e : Bool} (hm : (nextMove s).1 = .engine e) :
    stepSamples s = if s.pp.lineOp = [.get] ∧ pinFails e s = false then [s.dout] else [] := by
  simp [stepSamples, hm]

theorem stepLineOps_engine {s : State} {e : Bool} (hm : (nextMove s).1 = .engine e) : stepLineOps s = s.pp.lineOp := by
  simp [stepLineOps, hm]

/-- A step in a ready wait goes on with it or ends it. -/
theorem WaitSoFar.step {p q : Point} {u s t : State} {k : Nat} {S : List Level} {L : List LineOp}
    (hpq : (p, q) ∈ waitPoints) (hl : u.cfg.legal = true) (ht0 : u.t0 = u.now) (htmo : u.tmo.toNat ≤ maxTimeout)
    (h : WaitSoFar p q u s k S L) (hs : step s = .next t) (hb : s.busy = true) (hr : (nextMove s).1 ≠ .reset) :
    (∃ k, WaitSoFar p q u t k (S ++ stepSamples s) (L ++ stepLineOps s))
      ∨ ∃ v, WaitEnds p u v t k (S ++ stepSamples s) (L ++ stepLineOps s) := by
  obtain ⟨⟨hsample, hget, hp0⟩, hpoll, hq0, hback⟩ := waitPoints_spec hpq
  have hidle : s.pp ≠ .idle := by obtain hp | hp := h.point <;> simpa [hp]
  obtain ⟨e, ts, d, hm, he, hev⟩ | ⟨same, hS, hL, hnow⟩ := step_running hs hb hidle hr
  · rw [stepSamples_engine hm, stepLineOps_engine hm]
    obtain hp | hp := h.point
    · have taken : WaitSoFar p q u { s with turns := ts, draws := d } k S L :=
        ⟨h.same.trans (by constructor <;> rfl), h.point, h.now, h.before, h.samples, h.ops⟩
      rw [hp, hget]
      simp only [true_and]
      exact (taken.sample hpq hl ht0 htmo hp hev).imp (fun h => ⟨_, h⟩) fun h => ⟨_, h⟩
    · have hdelay : s.pp.isDelay = true := hp ▸ hpoll
      obtain rfl := hev.of_delay hdelay
      have hto : afterDelay { s with turns := ts, draws := d } = p := by rw [← hback s, ← hp]; rfl
      have hdue : s.now = s.due := ((engineEnabled_iff s).1 he).2.2 hdelay
      rw [hto, hp, Point.lineOp_of_isDelay hpoll]
      refine .inl ⟨k, ?_⟩
      exact {
        same := h.same.trans (by constructor <;> rfl)
        point := .inl rfl
        now := by
          rw [← h.now, clock_of_delay hdelay, ← hdue]
          exact clock_of_point (s := goTo p _) hsample
        before := h.before
        samples := by simpa using h.samples
        ops := by simpa using h.ops }
  · refine .inl ⟨k, ?_⟩
    rw [hS, hL, List.append_nil, List.append_nil]
    exact ⟨h.same.trans same.toSameCommand, same.pp ▸ h.point, hnow.trans h.now, h.before, h.samples, h.ops⟩

/-- A ready wait whose deadline is over has made the polls of `pollTicks`. -/
theorem pollTicks_eq {c : Config} {n k : Nat} (hP : 1 ≤ c.tPollUs) (hle : n ≤ k * c.tPollUs)
    (hlt : k * c.tPollUs < n + c.tPollUs) : pollTicks c n = k * c.tPollUs ∧ pollTicks c n / c.tPollUs = k := by
  have hdiv : (n + (c.tPollUs - 1)) / c.tPollUs = k :=
    Nat.div_eq_of_lt_le (by omega) (by rw [Nat.succ_mul]; omega)
  exact ⟨by rw [pollTicks, hdiv], by rw [pollTicks, hdiv, Nat.mul_div_cancel _ (by omega)]⟩

/-- The end of a ready wait by its deadline (41_acquire.md R91). -/
structure WaitTimedOut (u t : State) (S : List Level) (L : List LineOp) : Prop where
  samples : S = List.replicate (pollTicks u.cfg u.tmo.toNat / u.cfg.tPollUs + 1) 1
  ops : L = List.replicate (pollTicks u.cfg u.tmo.toNat / u.cfg.tPollUs + 1) .get
  result : t.result = u.result
  valid : t.valid = if u.op = .read then false else u.valid
  now : t.now = u.now + ticks (pollTicks u.cfg u.tmo.toNat)

theorem WaitEnds.timedOut {p : Point} {u s : State} {k : Nat} {S : List Level} {L : List LineOp} (hl : u.cfg.legal = true)
    (h : WaitEnds p u s (raiseStatus .notReady s) k S L) (hS : S = List.replicate (k + 1) 1)
    (hle : u.tmo.toNat ≤ k * u.cfg.tPollUs) : WaitTimedOut u (raiseStatus .notReady s) S L := by
  obtain ⟨-, -, -, -, ⟨hP, -⟩, -⟩ := (legal_iff u.cfg).1 hl
  obtain ⟨hticks, hpolls⟩ := pollTicks_eq hP hle h.before
  exact {
    samples := by rw [hpolls, hS]
    ops := by rw [hpolls, h.ops]
    result := h.same.result
    valid := by simp [h.same.op, h.same.valid]
    now := by rw [hticks]; exact h.now }

theorem waitSoFar_start {p q : Point} {u : State} (hpq : (p, q) ∈ waitPoints) (hl : u.cfg.legal = true) (hp : u.pp = p) :
    WaitSoFar p q u u 0 [] [] where
  same := by constructor <;> rfl
  point := .inl hp
  now := by
    rw [clock_of_point (hp ▸ (waitPoints_spec hpq).1.1)]
    simp [ticks]
  before := by
    obtain ⟨-, -, -, -, ⟨hP, -⟩, -⟩ := (legal_iff u.cfg).1 hl
    omega
  samples := rfl
  ops := rfl

/-! ## Every WAIT_READY -/

/-- A WAIT_READY that has found DOUT = 0 (41_acquire.md R90). -/
def WaitFound (u t : State) (S : List Level) (L : List LineOp) : Prop :=
  ∃ j, S = List.replicate j 1 ++ [0] ∧ L = List.replicate (j + 1) .get
    ∧ j * u.cfg.tPollUs < u.tmo.toNat + u.cfg.tPollUs ∧ t.now = u.now + ticks (j * u.cfg.tPollUs)

/-- A WAIT_READY in its run: it waits, or it has ended. -/
def WaitRun (u t : State) (S : List Level) (L : List LineOp) : Prop :=
  (∃ k, WaitSoFar .wSample .wPoll u t k S L)
    ∨ (t.busy = false ∧ (t.err = .ok → WaitFound u t S L) ∧ (t.err = .notReady → WaitTimedOut u t S L))

theorem WaitRun.step {u s t : State} {S : List Level} {L : List LineOp} (hl : u.cfg.legal = true) (ht0 : u.t0 = u.now)
    (htmo : u.tmo.toNat ≤ maxTimeout) (h : WaitRun u s S L) (hb : s.busy = true) (hr : (nextMove s).1 ≠ .reset)
    (hs : step s = .next t) : WaitRun u t (S ++ stepSamples s) (L ++ stepLineOps s) := by
  obtain ⟨k, h⟩ | ⟨hidle, -⟩ := h
  · obtain hgo | ⟨v, hend⟩ := h.step (by simp [waitPoints]) hl ht0 htmo hs hb hr
    · exact .inl hgo
    · obtain rfl | ⟨hS, rfl⟩ | ⟨hS, hle, rfl⟩ := hend.ends
      · exact .inr ⟨rfl, nofun, nofun⟩
      · exact .inr ⟨rfl, fun _ => ⟨k, hS, hend.ops, hend.before, hend.now⟩, nofun⟩
      · exact .inr ⟨rfl, nofun, fun _ => hend.timedOut hl hS hle⟩
  · cases hb.symm.trans hidle

theorem waitRun_of_commandRun {s u t : State} {n : Nat} (hl : s.cfg.legal = true) (hb : s.busy = false)
    (hi : s.init = true) (ha : s.asleep = false) (hx : exec .waitReady s = .next u) (h : commandRun n u t) :
    WaitRun (waitStart s) t (samples n u) (lineTrace n u) := by
  cases (exec_waitReady hb hi ha).symm.trans hx
  exact commandRun_induction (WaitRun (waitStart s))
    (fun _ _ _ _ hb hr hs h => h.step hl rfl (argTimeout_le s.arg) hb hr hs)
    (.inl ⟨0, waitSoFar_start (by simp [waitPoints]) hl rfl⟩) h

/-- Settles O47: the schedule by its parts, and every run by the ready wait so far. -/
theorem waitReadyEndsAtReadySample : Obligations.WaitReadyEndsAtReadySample := by
  constructor <;> intro s
  · intro j ts hl hb hi ha hj ht
    rw [← argTimeout_toNat] at hj
    obtain ⟨v, playsv, hv⟩ := (at_snap (waitStart s)).readyAt (u := waitStart s) (p := .wSample) (q := .wPoll) hl rfl rfl
      (by simp [waitPoints]) rfl rfl j hj
    have found := hv.event (u := waitStart s) hl rfl nofun rfl (.found hv.pp rfl hv.dout)
    obtain ⟨hL, hr⟩ := (playsv.trans found).runCommand (exec_waitReady hb hi ha) ht
    rw [show (readyAt (waitStart s).cfg j ++ quiet 1).length = j * (s.cfg.tPollUs + 2) + 3 by
      simp [readyAt, quiet, waitStart]] at hL hr
    refine ⟨by rw [List.replicate_succ']; exact hL, _, hr, ?_⟩
    simp [State.withTurns, hv.ovr, hv.now, hv.init, hv.asleep, hv.sel, hv.valid, hv.result, hv.arg, hv.sck, waitStart,
      State.snap, hi, ha]
  · intro u t n hl hb hi ha hx h hidle hok
    obtain ⟨k, hwait⟩ | ⟨-, hfound, -⟩ := waitRun_of_commandRun hl hb hi ha hx h
    · cases hidle.symm.trans hwait.same.busy
    · obtain ⟨j, hS, hL, hj, hnow⟩ := hfound hok
      exact ⟨j, hS, hL, argTimeout_toNat s.arg ▸ hj, hnow⟩

/-- Settles O48: as O47, with the deadline's last sample. -/
theorem waitReadyTimesOut : Obligations.WaitReadyTimesOut := by
  constructor <;> intro s
  · intro e ts hl hb hi ha he ht
    obtain ⟨v, plays, hv⟩ := (at_snap (waitStart s)).playsNeverReady (u := waitStart s) (p := .wSample) (q := .wPoll) hl
      rfl rfl (by simp [waitPoints]) rfl rfl he (argTimeout_le s.arg)
    rw [show (waitStart s).tmo.toNat = s.arg.toNat * 1000 from argTimeout_toNat s.arg] at plays hv
    obtain ⟨hL, hr⟩ := plays.runCommand (exec_waitReady hb hi ha) ht
    refine ⟨hL, _, hr, ?_⟩
    simp [State.withTurns, hv.ovr, hv.now, hv.init, hv.asleep, hv.sel, hv.valid, hv.result, hv.arg, hv.sck, hv.op,
      waitStart, State.snap, hi, ha]
  · intro u t n hl hb hi ha hx h hidle hnot
    obtain ⟨k, hwait⟩ | ⟨-, -, hout⟩ := waitRun_of_commandRun hl hb hi ha hx h
    · cases hidle.symm.trans hwait.same.busy
    · rw [← argTimeout_toNat]
      have := hout hnot
      exact ⟨this.samples, this.ops, this.now⟩

end Sys2Proof.Machine

/-! PROOFS. Every run of a READ (41_acquire.md R92 to R98), whatever host accesses and sensor changes come in between. -/

namespace Sys2Proof.Machine

/-! ## The pulses of a READ -/

/-- The line operations of n data pulses and of n trailing pulses. -/
def dataOps (n : Nat) : List LineOp := (List.replicate n [LineOp.set 1, .get, .set 0]).flatten

def trailOps (n : Nat) : List LineOp := (List.replicate n [LineOp.set 1, .set 0]).flatten

theorem dataOps_succ (n : Nat) : dataOps (n + 1) = dataOps n ++ [.set 1, .get, .set 0] := by
  simp [dataOps, List.replicate_succ']

theorem trailOps_succ (n : Nat) : trailOps (n + 1) = trailOps n ++ [.set 1, .set 0] := by
  simp [trailOps, List.replicate_succ']

/-- The line operations that a READ's pulses have made at a point, by the counters. -/
def pulseOps (p : Point) (bit trail : Nat) : List LineOp :=
  match p with
  | .dHigh | .dSample => dataOps bit ++ [.set 1]
  | .dFall => dataOps (bit - 1) ++ [.set 1, .get]
  | .tRise | .tLow | .rCommit => dataOps 24 ++ trailOps trail
  | .tHigh | .tFall => dataOps 24 ++ trailOps trail ++ [.set 1]
  | _ => dataOps bit

/-- The ticks that they have taken by the point's next event. -/
def pulseTime (c : Config) (p : Point) (bit trail : Nat) : Nat :=
  match p with
  | .dHigh | .dSample => bit * pulseTicks c + c.tHighUs
  | .dFall => (bit - 1) * pulseTicks c + c.tHighUs
  | .tRise | .tLow | .rCommit => (24 + trail) * pulseTicks c
  | .tHigh | .tFall => (24 + trail) * pulseTicks c + c.tHighUs
  | _ => bit * pulseTicks c

/-- The READ of u, ready at sample j, has shifted the bits in, with the samples S and the line operations L. -/
structure ShiftSoFar (u s : State) (j : Nat) (bits : List Level) (S : List Level) (L : List LineOp) : Prop where
  same : SameCommand u s
  before : j * u.cfg.tPollUs < u.tmo.toNat + u.cfg.tPollUs
  shifts : s.pp.shifts = true
  counts : readCounts s ∧ s.bit ≤ 24
  length : bits.length = s.bit
  acc : s.acc = bits.foldl shiftIn 0
  samples : S = List.replicate j 1 ++ 0 :: bits
  ops : L = List.replicate (j + 1) .get ++ pulseOps s.pp s.bit s.trail
  now : clock s = u.now + ticks (j * u.cfg.tPollUs + pulseTime u.cfg s.pp s.bit s.trail)
  sck : s.pp = .tLow ∨ s.pp = .rCommit → s.sck = 0

/-- From s to t the READ goes on: the line operations L, and d ticks to the next event. -/
structure ShiftGoes (s t : State) (L : List LineOp) (d : Nat) : Prop where
  same : SameCommand s t
  shifts : t.pp.shifts = true
  counts : readCounts t ∧ t.bit ≤ 24
  ops : pulseOps t.pp t.bit t.trail = pulseOps s.pp s.bit s.trail ++ L
  now : clock t = clock s + ticks d
  time : pulseTime s.cfg t.pp t.bit t.trail = pulseTime s.cfg s.pp s.bit s.trail + d
  sck : t.pp = .tLow ∨ t.pp = .rCommit → t.sck = 0

theorem ShiftSoFar.next {u s t : State} {j d : Nat} {bits more S : List Level} {L L' : List LineOp}
    (h : ShiftSoFar u s j bits S L) (goes : ShiftGoes s t L' d) (hlen : (bits ++ more).length = t.bit)
    (hacc : t.acc = (bits ++ more).foldl shiftIn 0) : ShiftSoFar u t j (bits ++ more) (S ++ more) (L ++ L') where
  same := h.same.trans goes.same
  before := h.before
  shifts := goes.shifts
  counts := goes.counts
  length := hlen
  acc := hacc
  samples := by rw [h.samples, List.append_assoc, List.cons_append]
  ops := by rw [h.ops, goes.ops, List.append_assoc]
  now := by
    rw [goes.now, h.now, ← h.same.cfg, goes.time, BitVec.add_assoc, ← ticks_add, Nat.add_assoc]
  sck := goes.sck

theorem ShiftSoFar.next_same {u s t : State} {j d : Nat} {bits S : List Level} {L L' : List LineOp}
    (h : ShiftSoFar u s j bits S L) (goes : ShiftGoes s t L' d) (hbit : t.bit = s.bit) (hacc : t.acc = s.acc) :
    ShiftSoFar u t j bits (S ++ []) (L ++ L') := by
  have := h.next (more := []) goes (by rw [List.append_nil, h.length, hbit]) (by rw [List.append_nil, hacc, h.acc])
  rwa [List.append_nil] at this

/-- An event at a point that is no Delay, into a Delay of d ticks. -/
theorem clock_enters {s u : State} {q : Point} {d : Nat} (hp : s.pp.isDelay = false) (hq : q.isDelay = true)
    (hu : u.now = s.now) : clock (holdAt q d u) = clock s + ticks d := by
  rw [clock_holdAt hq, hu, clock_of_point hp]

theorem readCounts_at {s : State} {p : Point} (hp : s.pp = p) (h : readCounts s) : readCounts { s with pp := p } := by
  rw [← hp]; exact h

/-- The data and trailing pulses' rising edges. -/
theorem shiftGoes_dRise {s : State} (hp : s.pp = .dRise) (h : readCounts s ∧ s.bit ≤ 24) :
    ShiftGoes s (holdAt .dHigh s.cfg.tHighUs (driveSck 1 s)) [.set 1] s.cfg.tHighUs where
  same := by constructor <;> rfl
  shifts := rfl
  counts := ⟨readCounts_at hp h.1, h.2⟩
  ops := by rw [hp]; rfl
  now := clock_enters (by rw [hp]; rfl) rfl rfl
  time := by rw [hp]; rfl
  sck := by simp

theorem shiftGoes_tRise {s : State} (hp : s.pp = .tRise) (h : readCounts s ∧ s.bit ≤ 24) :
    ShiftGoes s (holdAt .tHigh s.cfg.tHighUs (driveSck 1 s)) [.set 1] s.cfg.tHighUs where
  same := by constructor <;> rfl
  shifts := rfl
  counts := ⟨readCounts_at hp h.1, h.2⟩
  ops := by rw [hp]; rfl
  now := clock_enters (by rw [hp]; rfl) rfl rfl
  time := by rw [hp]; rfl
  sck := by simp

/-- The sample of a data bit. -/
theorem shiftGoes_sample {s : State} (hp : s.pp = .dSample) (h : readCounts s ∧ s.bit ≤ 24) :
    ShiftGoes s (goTo .dFall { s with acc := shiftIn s.acc s.dout, bit := s.bit + 1 }) [.get] 0 where
  same := by constructor <;> rfl
  shifts := rfl
  counts := by
    obtain ⟨hbit, htrail⟩ : s.bit < 24 ∧ s.trail = 0 := readCounts_at hp h.1
    exact ⟨⟨Nat.succ_pos _, htrail⟩, hbit⟩
  ops := by rw [hp]; simp [pulseOps]
  now := by
    rw [clock_of_point (s := s) (by rw [hp]; rfl), clock_of_point (by rfl)]
    simp [ticks]
  time := by rw [hp]; rfl
  sck := by simp

/-- The falling edges. -/
theorem shiftGoes_dFall {s : State} (hp : s.pp = .dFall) (h : readCounts s ∧ s.bit ≤ 24) :
    ShiftGoes s (holdAt .dLow s.cfg.tLowUs (driveSck 0 s)) [.set 0] s.cfg.tLowUs := by
  have counts : 1 ≤ s.bit ∧ s.trail = 0 := readCounts_at hp h.1
  obtain ⟨n, hn⟩ : ∃ n, s.bit = n + 1 := ⟨s.bit - 1, by omega⟩
  exact {
    same := by constructor <;> rfl
    shifts := rfl
    counts := ⟨counts, h.2⟩
    ops := by rw [hp]; simp [pulseOps, hn, dataOps_succ]
    now := clock_enters (by rw [hp]; rfl) rfl rfl
    time := by rw [hp]; simp [pulseTime, hn, pulseTicks]; ring
    sck := by simp }

theorem shiftGoes_tFall {s : State} (hp : s.pp = .tFall) (h : readCounts s ∧ s.bit ≤ 24) :
    ShiftGoes s (holdAt .tLow s.cfg.tLowUs { driveSck 0 s with trail := s.trail + 1 }) [.set 0] s.cfg.tLowUs where
  same := by constructor <;> rfl
  shifts := rfl
  counts := by
    obtain ⟨hbit, htrail⟩ : s.bit = 24 ∧ s.trail < trailingPulses s.sel := readCounts_at hp h.1
    exact ⟨⟨hbit, Nat.succ_pos _, htrail⟩, h.2⟩
  ops := by rw [hp]; simp [pulseOps, trailOps_succ]
  now := clock_enters (by rw [hp]; rfl) rfl rfl
  time := by rw [hp]; simp [pulseTime, pulseTicks]; ring
  sck _ := rfl

/-- The end of a Delay at p, which leads to r. -/
theorem ShiftGoes.of_delay {s : State} {p r : Point} (hpp : s.pp = p) (hp : p.isDelay = true) (hr : r.isDelay = false)
    (hdue : s.now = s.due) (hto : afterDelay { s with pp := p } = r) (hshift : r.shifts = true) (hbit : s.bit ≤ 24)
    (counts : readCounts (goTo r s)) (ops : pulseOps r s.bit s.trail = pulseOps p s.bit s.trail)
    (time : pulseTime s.cfg r s.bit s.trail = pulseTime s.cfg p s.bit s.trail) (sck : r = .rCommit → s.sck = 0) :
    ShiftGoes s (goTo (afterDelay s) s) [] 0 := by
  have hafter : afterDelay s = r := by rw [← hto, ← hpp]
  rw [hafter]
  exact {
    same := by constructor <;> rfl
    shifts := hshift
    counts := ⟨counts, hbit⟩
    ops := by rw [List.append_nil, hpp]; exact ops
    now := by
      rw [clock_of_delay (s := s) (hpp ▸ hp), ← hdue, clock_of_point (s := goTo r s) hr]
      simp [ticks]
    time := by rw [hpp]; exact time
    sck := fun h => sck (h.resolve_left fun h => by cases h; cases hr) }

theorem shiftGoes_delayEnds {s : State} (hp : s.pp.isDelay = true) (hshift : s.pp.shifts = true)
    (h : readCounts s ∧ s.bit ≤ 24) (hsck : s.pp = .tLow ∨ s.pp = .rCommit → s.sck = 0) (hdue : s.now = s.due) :
    ShiftGoes s (goTo (afterDelay s) s) [] 0 := by
  cases hpp : s.pp <;> simp only [hpp, Point.isDelay, Point.shifts, Bool.false_eq_true] at hp hshift
  case dHigh =>
    have counts := readCounts_at hpp h.1
    exact .of_delay (r := .dSample) hpp rfl rfl hdue rfl rfl h.2 counts rfl rfl nofun
  case dLow =>
    obtain ⟨-, htrail⟩ : 1 ≤ s.bit ∧ s.trail = 0 := readCounts_at hpp h.1
    by_cases hbit : s.bit < 24
    · exact .of_delay hpp rfl rfl hdue (if_pos hbit) rfl h.2 ⟨hbit, htrail⟩ rfl rfl nofun
    · have hfull : s.bit = 24 := le_antisymm h.2 (not_lt.1 hbit)
      exact .of_delay hpp rfl rfl hdue (if_neg hbit) rfl h.2 ⟨hfull, htrail ▸ Nat.succ_pos _⟩
        (by rw [hfull, htrail]; simp [pulseOps, trailOps]) (by rw [hfull, htrail]; rfl) nofun
  case tHigh =>
    have counts := readCounts_at hpp h.1
    exact .of_delay (r := .tFall) hpp rfl rfl hdue rfl rfl h.2 counts rfl rfl nofun
  case tLow =>
    obtain ⟨hbit, -, htrail⟩ : s.bit = 24 ∧ 1 ≤ s.trail ∧ s.trail ≤ trailingPulses s.sel := readCounts_at hpp h.1
    by_cases hlt : s.trail < trailingPulses s.sel
    · exact .of_delay hpp rfl rfl hdue (if_pos hlt) rfl h.2 ⟨hbit, hlt⟩ rfl rfl nofun
    · exact .of_delay hpp rfl rfl hdue (if_neg hlt) rfl h.2 ⟨hbit, le_antisymm htrail (not_lt.1 hlt)⟩ rfl rfl
        fun _ => hsck (.inl hpp)

/-! ## A READ so far -/

/-- The end of a READ that returns OK (41_acquire.md R95, R97, R98). -/
structure ReadDone (u t : State) (j : Nat) (bits : List Level) (S : List Level) (L : List LineOp) : Prop where
  length : bits.length = 24
  before : j * u.cfg.tPollUs < u.tmo.toNat + u.cfg.tPollUs
  samples : S = List.replicate j 1 ++ 0 :: bits
  ops : L = readOps u.sel j
  result : t.result = sext32 (bits.foldl shiftIn 0)
  valid : t.valid = true
  sel : t.sel = u.sel
  sck : t.sck = 0
  now : t.now = u.now + ticks (j * u.cfg.tPollUs + totalPulses u.sel * pulseTicks u.cfg)

/-- A READ in its run: it waits, it shifts, or it has ended. -/
def ReadRun (u t : State) (S : List Level) (L : List LineOp) : Prop :=
  (∃ k, WaitSoFar .rwSample .rwPoll u t k S L) ∨ (∃ j bits, ShiftSoFar u t j bits S L)
    ∨ (t.busy = false ∧ (t.err = .ok → ∃ j bits, ReadDone u t j bits S L) ∧ (t.err = .notReady → WaitTimedOut u t S L))

/-- A ready wait that finds DOUT = 0 begins to shift. -/
theorem WaitEnds.shifts {u s : State} {k : Nat} {S : List Level} {L : List LineOp}
    (h : WaitEnds .rwSample u s (goTo .dRise { s with acc := 0, bit := 0, trail := 0 }) k S L)
    (hS : S = List.replicate k 1 ++ [0]) :
    ShiftSoFar u (goTo .dRise { s with acc := 0, bit := 0, trail := 0 }) k [] S L where
  same := h.same.trans (by constructor <;> rfl)
  before := h.before
  shifts := rfl
  counts := ⟨⟨Nat.succ_pos _, rfl⟩, Nat.zero_le _⟩
  length := rfl
  acc := rfl
  samples := hS
  ops := by rw [h.ops]; simp [pulseOps, dataOps]
  now := by
    rw [clock_of_point (by rfl)]
    simpa [pulseTime] using h.now
  sck := by simp

/-- READ's commit. -/
theorem ShiftSoFar.done {u s : State} {j : Nat} {bits S : List Level} {L : List LineOp} (h : ShiftSoFar u s j bits S L)
    (hp : s.pp = .rCommit) :
    ReadDone u (finish { s with result := sext32 s.acc, valid := true }) j bits S L := by
  obtain ⟨hbit, htrail⟩ : s.bit = 24 ∧ s.trail = trailingPulses s.sel := readCounts_at hp h.counts.1
  have hsel := h.same.sel
  have htime : pulseTime u.cfg s.pp s.bit s.trail = totalPulses u.sel * pulseTicks u.cfg := by
    rw [hp, htrail, hsel]
    simp [pulseTime, totalPulses, trailingPulses, Nat.add_comm]
  have hnow := h.now
  rw [htime, clock_of_point (by rw [hp]; rfl)] at hnow
  exact {
    length := h.length.trans hbit
    before := h.before
    samples := h.samples
    ops := by
      rw [h.ops, hp, htrail, hsel, readOps, List.append_assoc]
      rfl
    result := by rw [← h.acc]; rfl
    valid := by simp
    sel := hsel
    sck := h.sck (.inr hp)
    now := hnow }

/-- An engine event in the shifts goes on with them, fails, or commits. -/
theorem ShiftSoFar.event {e : Bool} {u s t : State} {j : Nat} {bits S : List Level} {L : List LineOp}
    (h : ShiftSoFar u s j bits S L) (hdue : s.pp.isDelay = true → s.now = s.due) (hev : EventTo e s t) :
    ReadRun u t (S ++ if s.pp.lineOp = [.get] ∧ pinFails e s = false then [s.dout] else []) (L ++ s.pp.lineOp) := by
  have hshift := h.shifts
  have goes {d : Nat} {L' : List LineOp} {t : State} (hops : s.pp.lineOp = L') (hne : L' ≠ [.get])
      (goes : ShiftGoes s t L' d) (hbit : t.bit = s.bit) (hacc : t.acc = s.acc) :
      ReadRun u t (S ++ if s.pp.lineOp = [.get] ∧ pinFails e s = false then [s.dout] else []) (L ++ s.pp.lineOp) := by
    rw [hops, if_neg (fun h => hne h.1)]
    exact .inr (.inl ⟨j, bits, h.next_same goes hbit hacc⟩)
  cases hev with
  | rise q hp =>
    obtain ⟨hp, rfl⟩ | ⟨hp, rfl⟩ := hp
    · exact goes (by rw [hp]; rfl) (by decide) (shiftGoes_dRise hp h.counts) rfl rfl
    · exact goes (by rw [hp]; rfl) (by decide) (shiftGoes_tRise hp h.counts) rfl rfl
  | sample hp hf =>
    rw [hp, if_pos ⟨rfl, hf⟩]
    exact .inr (.inl ⟨j, bits ++ [s.dout], h.next (shiftGoes_sample hp h.counts) (by simp [h.length])
      (by simp [h.acc])⟩)
  | dFall hp => exact goes (by rw [hp]; rfl) (by decide) (shiftGoes_dFall hp h.counts) rfl rfl
  | tFall hp => exact goes (by rw [hp]; rfl) (by decide) (shiftGoes_tFall hp h.counts) rfl rfl
  | delayEnds hp =>
    exact goes (Point.lineOp_of_isDelay hp) (by decide) (shiftGoes_delayEnds hp hshift h.counts h.sck (hdue hp)) rfl rfl
  | rCommit hp =>
    rw [hp, if_neg (by simp [Point.lineOp]), List.append_nil, show Point.rCommit.lineOp = [] from rfl, List.append_nil]
    exact .inr (.inr ⟨rfl, fun _ => ⟨j, bits, h.done hp⟩, nofun⟩)
  | getFails | setFails => exact .inr (.inr ⟨rfl, nofun, nofun⟩)
  | cfgFails hp | timedOut hp => obtain hp | hp := hp <;> simp [hp, Point.shifts] at hshift
  | poll q hp => obtain ⟨hp, -⟩ | ⟨hp, -⟩ := hp <;> simp [hp, Point.shifts] at hshift
  | idle hp | cfgSck hp | cfgDout hp | iCommit hp | found hp | readFound hp | sSet hp | sCommit hp | kSet hp | kCommit hp =>
    simp [hp, Point.shifts] at hshift

/-- A step in the shifts of a READ. -/
theorem ShiftSoFar.step {u s t : State} {j : Nat} {bits S : List Level} {L : List LineOp}
    (h : ShiftSoFar u s j bits S L) (hs : step s = .next t) (hb : s.busy = true) (hr : (nextMove s).1 ≠ .reset) :
    ReadRun u t (S ++ stepSamples s) (L ++ stepLineOps s) := by
  obtain ⟨e, ts, d, hm, he, hev⟩ | ⟨same, hS, hL, hnow⟩ := step_running hs hb (ne_idle_of_shifts h.shifts) hr
  · rw [stepSamples_engine hm, stepLineOps_engine hm]
    have taken : ShiftSoFar u { s with turns := ts, draws := d } j bits S L := {
      h with same := h.same.trans (by constructor <;> rfl) }
    exact taken.event (fun hd => ((engineEnabled_iff s).1 he).2.2 hd) hev
  · rw [hS, hL, List.append_nil, List.append_nil]
    exact .inr (.inl ⟨j, bits, {
      same := h.same.trans same.toSameCommand
      before := h.before
      shifts := same.pp ▸ h.shifts
      counts := by
        have := h.counts
        unfold readCounts at this ⊢
        rwa [same.pp, same.bit, same.trail, same.sel]
      length := same.bit ▸ h.length
      acc := same.acc.trans h.acc
      samples := h.samples
      ops := by rw [same.pp, same.bit, same.trail]; exact h.ops
      now := by rw [hnow, same.pp, same.bit, same.trail]; exact h.now
      sck := by rw [same.pp, same.sck]; exact h.sck }⟩)

/-- A step of a READ. -/
theorem ReadRun.step {u s t : State} {S : List Level} {L : List LineOp} (hl : u.cfg.legal = true) (ht0 : u.t0 = u.now)
    (htmo : u.tmo.toNat ≤ maxTimeout) (h : ReadRun u s S L) (hb : s.busy = true) (hr : (nextMove s).1 ≠ .reset)
    (hs : step s = .next t) : ReadRun u t (S ++ stepSamples s) (L ++ stepLineOps s) := by
  obtain ⟨k, h⟩ | ⟨j, bits, h⟩ | ⟨hidle, -⟩ := h
  · obtain hgo | ⟨v, hend⟩ := h.step (by simp [waitPoints]) hl ht0 htmo hs hb hr
    · exact .inl hgo
    · obtain rfl | ⟨hS, rfl⟩ | ⟨hS, hle, rfl⟩ := hend.ends
      · exact .inr (.inr ⟨rfl, nofun, nofun⟩)
      · exact .inr (.inl ⟨k, [], hend.shifts hS⟩)
      · exact .inr (.inr ⟨rfl, nofun, fun _ => hend.timedOut hl hS hle⟩)
  · exact h.step hs hb hr
  · cases hb.symm.trans hidle

theorem readRun_of_commandRun {s u t : State} {n : Nat} (hl : s.cfg.legal = true) (hb : s.busy = false)
    (hi : s.init = true) (ha : s.asleep = false) (hx : exec .read s = .next u) (h : commandRun n u t) :
    ReadRun (readStart s) t (samples n u) (lineTrace n u) := by
  cases (exec_read hb hi ha).symm.trans hx
  exact commandRun_induction (ReadRun (readStart s))
    (fun _ _ _ _ hb hr hs h => h.step hl rfl (readTimeout_le hl) hb hr hs)
    (.inl ⟨0, waitSoFar_start (by simp [waitPoints]) hl rfl⟩) h

/-- Settles O49: the schedule by its parts, and every run by the READ so far. -/
theorem readTimesOut : Obligations.ReadTimesOut := by
  constructor <;> intro s
  · intro e ts hl hb hi ha he ht
    obtain ⟨v, plays, hv⟩ := (at_snap (readStart s)).playsNeverReady (u := readStart s) (p := .rwSample) (q := .rwPoll)
      hl rfl rfl (by simp [waitPoints]) rfl rfl he (readTimeout_le hl)
    rw [show (readStart s).tmo.toNat = msTicks s.cfg.tReadTimeoutMs from readTimeout_toNat hl] at plays hv
    obtain ⟨hL, hr⟩ := plays.runCommand (exec_read hb hi ha) ht
    refine ⟨hL, _, hr, ?_⟩
    simp [State.withTurns, hv.ovr, hv.now, hv.init, hv.asleep, hv.sel, hv.result, hv.arg, hv.sck, hv.op,
      readStart, State.snap, hi, ha]
  · intro u t n hl hb hi ha hx h hidle hnot
    obtain ⟨k, hwait⟩ | ⟨j, bits, hshift⟩ | ⟨-, -, hout⟩ := readRun_of_commandRun hl hb hi ha hx h
    · cases hidle.symm.trans hwait.same.busy
    · cases hidle.symm.trans hshift.same.busy
    · rw [← readTimeout_toNat hl]
      have := hout hnot
      exact ⟨this.samples, this.ops, this.valid, this.result, this.now⟩

/-- Settles O51: the schedule by its parts, and every run by the READ so far. -/
theorem readLineTrace : Obligations.ReadLineTrace := by
  refine ⟨fun s u j code ts hl hb hi ha _ hj ht hx => (read_readTurns hl hb hi ha hj ht).1 u hx, ?_⟩
  intro s u t n hl hb hi ha _ hx h hidle hok
  obtain ⟨k, hwait⟩ | ⟨j, bits, hshift⟩ | ⟨-, hdone, -⟩ := readRun_of_commandRun hl hb hi ha hx h
  · cases hidle.symm.trans hwait.same.busy
  · cases hidle.symm.trans hshift.same.busy
  · obtain ⟨j, bits, done⟩ := hdone hok
    exact ⟨j, bits, done.length, done.samples, readTimeout_toNat hl ▸ done.before, done.ops, done.result, done.valid,
      done.sel, done.sck, done.now⟩

end Sys2Proof.Machine
